-- ==== Sys2Proof/Word.lean ====
section
/-! DEFINITION. The words of MCB: bytes, halfwords, command words, pixels and grid modules. -/

namespace Sys2Proof

/-- One byte of the byte buffer (R24), also an opcode byte (R90). -/
abbrev Byte := BitVec 8

/-- A 16-bit register value or halfword immediate (R30, R31, R91). -/
abbrev Half := BitVec 16

/-- A command word (R90) or a response word (R97). -/
abbrev Word := BitVec 32

/-- One canvas pixel, 1 bit (R65). -/
abbrev Pixel := BitVec 1

/-- `BLACK = 1` (R65). -/
abbrev Pixel.black : Pixel := 1#1

/-- `WHITE = 0` (R65). -/
abbrev Pixel.white : Pixel := 0#1

/-- One cell of the module grid, "DARK (1) or LIGHT (0)" (R26). -/
inductive GridModule where
  | light
  | dark
  deriving DecidableEq, Repr

end Sys2Proof
end

