-- ==== Sys2Proof/Syntax.lean ====
section
/-! DEFINITION. The 16 commands of MCB (R93), the seven formats (R91), the four refusal codes (R182). -/

namespace Sys2Proof

/-- A command with its operands (R92, R93). `imm8` and `imm16` are data; `k`, `idx`, `row`, `col` and
`reg` are unsigned numbers, held to the width of their field by `Instr.wellFormed`. -/
inductive Instr where
  /-- `NOP` (R170) -/
  | nop
  /-- `RST` (R174) -/
  | rst
  /-- `PCLR` (R120) -/
  | pclr
  /-- `PUSH imm8` (R121) -/
  | push (imm8 : Byte)
  /-- `PAD` (R123) -/
  | pad
  /-- `GCLR` (R130) -/
  | gclr
  /-- `FIND k` (R131) -/
  | find (k : Nat)
  /-- `TIME` (R134) -/
  | time
  /-- `DATA` (R140) -/
  | data
  /-- `BUILD` (R146) -/
  | build
  /-- `SETS imm16` (R150) -/
  | sets (imm16 : Half)
  /-- `SETQ imm16` (R151) -/
  | setq (imm16 : Half)
  /-- `RAST` (R155) -/
  | rast
  /-- `RDB idx` (R171) -/
  | rdb (idx : Nat)
  /-- `RDG row, col` (R172) -/
  | rdg (row col : Nat)
  /-- `RDR reg` (R173) -/
  | rdr (reg : Nat)
  deriving DecidableEq, Repr

/-- The 16 assigned opcodes, by mnemonic (R93). -/
inductive Op where
  | nop | rst | pclr | push | pad | gclr | find | time | data | build | sets | setq | rast | rdb | rdg | rdr
  deriving DecidableEq, Repr

/-- The refusal codes (R182). -/
inductive RefusalCode where
  /-- code 1: the opcode is not one of the 16 -/
  | eOpcode
  /-- code 2: opcode assigned, but a must-be-zero bit of its format is 1 -/
  | eRsvd
  /-- code 3: operand out of range -/
  | eRange
  /-- code 4: `BLEN ≠ 44` when a full buffer is required -/
  | eShort
  deriving DecidableEq, Repr

/-- What the decoder answers (R94): a command, or the code of an illegal word. -/
inductive Decoded where
  | command (i : Instr)
  | illegal (code : RefusalCode)
  deriving DecidableEq, Repr

end Sys2Proof
end

