-- ==== Sys2Proof/WellFormed.lean ====
section
/-! DEFINITION. Well-formed commands: every operand fits the field that carries it (R91, R92). -/

namespace Sys2Proof

/-- Every operand fits its field: `k` 2 bits, `idx` 6 bits, `row` and `col` 5 bits each, `reg` 4 bits
(R91). An operand the field can carry but the command refuses (`FIND 3`) is well formed: R95 (c). -/
def Instr.wellFormed : Instr → Bool
  | .nop | .rst | .pclr | .push _ | .pad | .gclr => true
  | .find k => k < 4
  | .time | .data | .build | .sets _ | .setq _ | .rast => true
  | .rdb idx => idx < 64
  | .rdg row col => row < 32 && col < 32
  | .rdr reg => reg < 16

/-- `Instr.wellFormed` as a proposition. -/
abbrev Instr.WellFormed (i : Instr) : Prop := i.wellFormed = true

end Sys2Proof
end

