-- ==== Sys2Proof/Decode.lean ====
section
/-! DEFINITION. The decoder (R94), total on all 2^32 words, and the encoder, both from the tables R91 and R93. -/

namespace Sys2Proof

/-- The opcode byte of each mnemonic (R93). -/
def Op.code : Op → Byte
  | .nop => 0x00#8
  | .rst => 0x01#8
  | .pclr => 0x10#8
  | .push => 0x11#8
  | .pad => 0x12#8
  | .gclr => 0x20#8
  | .find => 0x21#8
  | .time => 0x22#8
  | .data => 0x23#8
  | .build => 0x24#8
  | .sets => 0x30#8
  | .setq => 0x31#8
  | .rast => 0x32#8
  | .rdb => 0x40#8
  | .rdg => 0x41#8
  | .rdr => 0x42#8

/-- The `mask` column of R93: 1 where the word's bit is fixed, by the opcode or as must-be-zero. -/
def Op.mask : Op → Word
  | .nop | .rst | .pclr | .pad | .gclr | .time | .data | .build | .rast => 0xFFFFFFFF#32
  | .push => 0xFFFFFF00#32
  | .find => 0xFFFFFFFC#32
  | .sets | .setq => 0xFFFF0000#32
  | .rdb => 0xFFFFFFC0#32
  | .rdg => 0xFFFFE0E0#32
  | .rdr => 0xFFFFFFF0#32

/-- The `match` column of R93: the opcode byte over zeros. -/
def Op.matchWord (o : Op) : Word := o.code ++ 0#24

/-- The rows of R93, in its order. -/
def Op.all : List Op :=
  [.nop, .rst, .pclr, .push, .pad, .gclr, .find, .time, .data, .build, .sets, .setq, .rast, .rdb, .rdg, .rdr]

/-- `w[31:24]` (R90). -/
def opByte (w : Word) : Byte := w.extractLsb' 24 8

/-- The assigned opcode of a byte, if it is one of the 16 (R93). -/
def Op.ofByte (b : Byte) : Option Op := Op.all.find? fun o => o.code == b

/-- The command of an opcode with its operand fields taken from the word, contiguous bits as they
stand (R91, R92). -/
def Op.instr (o : Op) (w : Word) : Instr :=
  match o with
  | .nop => .nop
  | .rst => .rst
  | .pclr => .pclr
  | .push => .push (w.extractLsb' 0 8)
  | .pad => .pad
  | .gclr => .gclr
  | .find => .find (w.extractLsb' 0 2).toNat
  | .time => .time
  | .data => .data
  | .build => .build
  | .sets => .sets (w.extractLsb' 0 16)
  | .setq => .setq (w.extractLsb' 0 16)
  | .rast => .rast
  | .rdb => .rdb (w.extractLsb' 0 6).toNat
  | .rdg => .rdg (w.extractLsb' 8 5).toNat (w.extractLsb' 0 5).toNat
  | .rdr => .rdr (w.extractLsb' 0 4).toNat

/-- The decoding procedure of R94: an unassigned opcode is `E_OPCODE`, a must-be-zero bit at 1 is
`E_RSVD`, in that order (R183). -/
def decode (w : Word) : Decoded :=
  match Op.ofByte (opByte w) with
  | none => .illegal .eOpcode
  | some o => if w &&& o.mask = o.matchWord then .command (o.instr w) else .illegal .eRsvd

/-- The opcode of a command (R93). -/
def Instr.op : Instr → Op
  | .nop => .nop
  | .rst => .rst
  | .pclr => .pclr
  | .push _ => .push
  | .pad => .pad
  | .gclr => .gclr
  | .find _ => .find
  | .time => .time
  | .data => .data
  | .build => .build
  | .sets _ => .sets
  | .setq _ => .setq
  | .rast => .rast
  | .rdb _ => .rdb
  | .rdg _ _ => .rdg
  | .rdr _ => .rdr

/-- The opcode byte of a command, the `echo` of its response (R97). -/
def Instr.opcode (i : Instr) : Byte := i.op.code

/-- The word of a command, field by field as the format tables of R91 lay it out. -/
def encode (i : Instr) : Word :=
  match i with
  | .nop | .rst | .pclr | .pad | .gclr | .time | .data | .build | .rast => i.opcode ++ 0#24
  | .push imm8 => i.opcode ++ 0#16 ++ imm8
  | .find k => i.opcode ++ 0#22 ++ BitVec.ofNat 2 k
  | .sets imm16 => i.opcode ++ 0#8 ++ imm16
  | .setq imm16 => i.opcode ++ 0#8 ++ imm16
  | .rdb idx => i.opcode ++ 0#18 ++ BitVec.ofNat 6 idx
  | .rdg row col => i.opcode ++ 0#11 ++ BitVec.ofNat 5 row ++ 0#3 ++ BitVec.ofNat 5 col
  | .rdr reg => i.opcode ++ 0#20 ++ BitVec.ofNat 4 reg

/-- The command the decoder reads from a word numbered as spec/opcode_table.json numbers it. A command
is one 32-bit transfer and never seen as bytes (R67 b), so the laying out is the word itself; bits above
`nbits` are 0. -/
def decodeTableWord (nbits w : Nat) : Option Instr :=
  match decode (BitVec.ofNat 32 (w % 2 ^ nbits)) with
  | .command i => some i
  | .illegal _ => none

end Sys2Proof
end

