-- ==== Sys2Proof/Config.lean ====
section
/-! DEFINITION. The constants the document fixes (R5) and the free values the spec leaves open. -/

namespace Sys2Proof.Config

/-- `CAPACITY`, the length of the byte buffer (R5). -/
@[simp] abbrev capacity : Nat := 44

/-- `V`, the fixed version constant (R5). -/
@[simp] abbrev version : Nat := 2

/-- `N`, the grid side, `17 + 4·V = 25` (R5). -/
@[simp] abbrev gridSide : Nat := 25

/-- `NBITS`, the number of source bits, `8·CAPACITY = 352` (R5). -/
@[simp] abbrev sourceBits : Nat := 352

/-- `FILL0`, the first filler byte (R5). -/
@[simp] abbrev fill0 : Byte := 0xEC#8

/-- `FILL1`, the second filler byte (R5). -/
@[simp] abbrev fill1 : Byte := 0x11#8

/-- `TIMING_LINE`, the index of the timing row and of the timing column (R5). -/
@[simp] abbrev timingLine : Nat := 6

/-- `TIMING_LO`, the first timing index (R5). -/
@[simp] abbrev timingLo : Nat := 8

/-- `TIMING_HI`, the last timing index, `N-9 = 16` (R5). -/
@[simp] abbrev timingHi : Nat := 16

/-- `SIZEPX_DEFAULT`, the reset value of `SIZEPX` (R5, R40). -/
@[simp] abbrev sizepxDefault : Half := 256#16

/-- `QUIETPX_DEFAULT`, the reset value of `QUIETPX` (R5, R40). -/
@[simp] abbrev quietpxDefault : Half := 24#16

/-- The identification word `ID` (R6, R35). -/
@[simp] abbrev idWord : Half := 0x192C#16

/-- FREE VALUE: byte `i` of `BUF` after the reset event numbered `n` ("`BUF[0..43]` unspecified",
R40). Log entry 5. -/
opaque resetBufByte (n i : Nat) : Byte

/-- FREE VALUE: how many writes of its sequence a `RAST` issued before the reset event numbered `n`
abandoned it ("which prefix is unspecified", R212). Log entry 6. -/
opaque abandonedWrites (n : Nat) : Nat

end Sys2Proof.Config
end

