-- ==== Sys2Proof/Machine/State.lean ====
section
/-! DEFINITION. The state of MCB (R20), of the canvas memory and of the channels beside it, and the state after reset. -/

namespace Sys2Proof.Machine

/-- The byte buffer `BUF`, 44 bytes (R20, R24). -/
abbrev Buf := Vector Byte 44

/-- The module grid `GRID`: `GRID[r][c]` is entry `c` of row `r` (R20, R26). -/
abbrev Grid := Vector (Vector GridModule 25) 25

/-- Canvas memory (R64): pixel addresses with the pixel there, one entry for each pixel that has a known
value. An unlisted pixel has no value (D28: "unspecified"); log entry 3. -/
abbrev Memory := List (Nat × Pixel)

/-- The one form of a canvas memory: addresses strictly rising. No entry can equal what an unlisted
address reads as, since that is no value. -/
abbrev Memory.wf (m : Memory) : Prop := (m.map Prod.fst).Pairwise (· < ·)

/-- What the host does next at the block's ports (R23, R41, R210, R212). -/
inductive HostInput where
  /-- presents the word `w` on the command channel and lets it complete (R70) -/
  | command (w : Word)
  /-- presents the word `w` and pulls `rst_n` low while it is executing (R212) -/
  | commandCut (w : Word)
  /-- pulls `rst_n` low while no command is executing (R210) -/
  | resetPulse
  deriving DecidableEq, Repr

/-- The block's architectural state (R20: the first eight fields, and nothing else), then what stands
outside the block: the canvas memory, the three channels (R41) and the model's own bookkeeping. -/
structure State where
  /-- `BUF` (R24) -/
  buf : Buf
  /-- `BLEN`, the number of valid bytes (R25) -/
  blen : BitVec 6
  /-- `GRID` (R26) -/
  grid : Grid
  /-- `SIZEPX` (R30) -/
  sizepx : Half
  /-- `QUIETPX` (R31) -/
  quietpx : Half
  /-- `CUR`, source bits placed by the last scan (R38) -/
  cur : BitVec 9
  /-- `STATUS.ERR` (R36) -/
  err : Bool
  /-- `STATUS.LASTERR` (R36) -/
  lasterr : BitVec 4
  /-- `CANVAS`, memory outside the block (R64) -/
  canvas : Memory
  /-- what the host will still present, first one first (R23) -/
  inputs : List HostInput
  /-- the command index of R23: how many command words have been taken -/
  index : Nat
  /-- every response word emitted, in command order (R97) -/
  rspOut : List Word
  /-- every transfer `(cv_addr, cv_data)` on the canvas port, in issue order (R41, R156) -/
  cvOut : List (Nat × Pixel)
  /-- the model's own: the number of the next free value (log entry 5) -/
  freeCount : Nat
  deriving DecidableEq, Repr

/-- Why the machine stops with a fault: never. "There are no traps [...], no asynchronous exceptions, no
aborts and no fatal or "stuck" condition" (R180), so this type has no constructor (safe: nothing is
stopped that the spec lets go on). -/
inductive Fault where
  deriving DecidableEq, Repr

/-- Why an instruction has no meaning in the model. A refused COMMAND of the spec (R181) is no such
thing: it is a next state. -/
inductive Refusal where
  /-- raised by an arm of `exec` whose instruction has no meaning yet; no arm is left that raises it
  (safe: it only stops) -/
  | notModelled (mnemonic : String)
  deriving DecidableEq, Repr

/-- The machine right after hardware reset (R40, R210), with nothing presented yet. The bytes of `buf`
are DESIGN CHOICE zeros (the spec: unspecified), log entry 1, unsafe; `freeCount` is DESIGN CHOICE 0, log
entry 5. -/
def State.reset : State where
  buf := Vector.replicate 44 0#8
  blen := 0#6
  grid := Vector.replicate 25 (Vector.replicate 25 .light)
  sizepx := Config.sizepxDefault
  quietpx := Config.quietpxDefault
  cur := 0#9
  err := false
  lasterr := 0#4
  canvas := []
  inputs := []
  index := 0
  rspOut := []
  cvOut := []
  freeCount := 0

end Sys2Proof.Machine
end

