-- ==== Sys2Proof/Machine/Flags.lean ====
section
/-! DEFINITION. The `STATUS` register (R36), the codes of the refusals (R182) and the response word (R97). -/

namespace Sys2Proof.Machine

/-- The 4-bit number of a refusal code (R182). -/
def refusalBits : RefusalCode → BitVec 4
  | .eOpcode => 1#4
  | .eRsvd => 2#4
  | .eRange => 3#4
  | .eShort => 4#4

/-- `STATUS.FULL`, derived: 1 exactly when `BLEN = 44` (R25, R36). -/
def State.full (s : State) : Bool := s.blen == 44#6

/-- The `STATUS` word: `LASTERR` in bits 7:4, `FULL` in bit 1, `ERR` in bit 0, zero elsewhere (R36). -/
def State.status (s : State) : Half :=
  0#8 ++ s.lasterr ++ 0#2 ++ BitVec.ofBool s.full ++ BitVec.ofBool s.err

/-- The response word of R97: `err`, three zeros, `code`, `echo`, `data`. -/
def responseWord (err : Bool) (code : BitVec 4) (echo : Byte) (data : Half) : Word :=
  BitVec.ofBool err ++ 0#3 ++ code ++ echo ++ data

/-- The response of a command that completes: `err = 0`, `code = 0` (R97). -/
def successWord (echo : Byte) (data : Half) : Word := responseWord false 0#4 echo data

/-- The response of a refused command: `err = 1`, its code, `data = 0` (R97, R181). -/
def refusalWord (c : RefusalCode) (echo : Byte) : Word := responseWord true (refusalBits c) echo 0#16

end Sys2Proof.Machine
end

