-- ==== Sys2Proof/Machine/Geometry.lean ====
section
/-! DEFINITION. The rasterizer arithmetic (R32, R152), in ℤ, from `SIZEPX` and `QUIETPX`. -/

namespace Sys2Proof.Machine

/-- `inner = S − 2·Q` (R32). -/
def State.inner (s : State) : Int := (s.sizepx.toNat : Int) - 2 * (s.quietpx.toNat : Int)

/-- `scale = max(0, floor(inner / 25))` (R32); `Int` division by a positive number rounds down. -/
def State.scale (s : State) : Int := max 0 (s.inner / 25)

/-- `gridpx = 25 · scale` (R32). -/
def State.gridpx (s : State) : Int := 25 * s.scale

/-- `center = floor((inner − gridpx) / 2)` (R32). -/
def State.center (s : State) : Int := (s.inner - s.gridpx) / 2

/-- `offset = Q + center` (R32). -/
def State.offset (s : State) : Int := (s.quietpx.toNat : Int) + s.center

end Sys2Proof.Machine
end

