-- ==== Sys2Proof/Machine/Operands.lean ====
section
/-! DEFINITION. Operand forms and their ranges (R92): finder anchors, buffer indices, grid cells, register numbers. -/

namespace Sys2Proof.Machine

/-- The anchor `FIND k` selects, as (row, column): `(0,0)`, `(0,N-7)`, `(N-7,0)`; `none` for `k = 3`,
out of range (R92, R131). -/
def findAnchor : Nat → Option (Nat × Nat)
  | 0 => some (0, 0)
  | 1 => some (0, Config.gridSide - 7)
  | 2 => some (Config.gridSide - 7, 0)
  | _ => none

/-- `RDB idx` names a valid byte: `idx < BLEN` (R92, R171). -/
def State.validIndex (s : State) (idx : Nat) : Bool := idx < s.blen.toNat

/-- `RDG row, col` names a cell: neither exceeds 24 (R92, R172). -/
def cellInRange (row col : Nat) : Bool := row ≤ 24 && col ≤ 24

/-- The registers of R34. -/
inductive RegName where
  | id | status | blen | sizepx | quietpx | scale | offset | cur
  deriving DecidableEq, Repr

/-- The register of a number, `none` for the reserved 8..15 (R34). -/
def regOfNumber : Nat → Option RegName
  | 0 => some .id
  | 1 => some .status
  | 2 => some .blen
  | 3 => some .sizepx
  | 4 => some .quietpx
  | 5 => some .scale
  | 6 => some .offset
  | 7 => some .cur
  | _ => none

end Sys2Proof.Machine
end

