-- ==== Sys2Proof/Machine/Ops.lean ====
section
/-! DEFINITION. The shared operations: one access to each space (R60), responses and refusals (R97, R181), reset (R40). -/

namespace Sys2Proof.Machine

/-! ### The byte buffer and its bit view -/

/-- `BUF[i]` (R61). Every index the commands form is below 44; elsewhere this answers 0 and is not used. -/
def Buf.byte (b : Buf) (i : Nat) : Byte := b[i]?.getD 0#8

/-- `BUF[i] <- v` (R61). -/
def Buf.setByte (b : Buf) (i : Nat) (v : Byte) : Buf := b.setIfInBounds i v

/-- The module a bit stands for: `1 = DARK`, `0 = LIGHT` (R5, R141). -/
def moduleOfBit (b : Bool) : GridModule := if b then .dark else .light

/-- `MemRead(BUFBIT, k, 1)`: bit `7 − (k mod 8)` of `BUF[floor(k / 8)]` (R9, R62). -/
def Buf.bit (b : Buf) (k : Nat) : Bool := (b.byte (k / 8)).getLsbD (7 - k % 8)

/-! ### The module grid -/

/-- `GRID[r][c]` (R63). No command forms an address outside 0..24; there it answers LIGHT, unused. -/
def Grid.cell (g : Grid) (r c : Nat) : GridModule := (g[r]?.bind (·[c]?)).getD .light

/-- `GRID[r][c] <- v` (R63). -/
def Grid.setCell (g : Grid) (r c : Nat) (v : GridModule) : Grid :=
  g.setIfInBounds r ((g[r]?.getD (Vector.replicate 25 .light)).setIfInBounds c v)

/-- Cell writes performed in list order. -/
def Grid.writeCells (g : Grid) (ws : List ((Nat × Nat) × GridModule)) : Grid :=
  ws.foldl (fun g w => g.setCell w.1.1 w.1.2 w.2) g

/-- Every cell `LIGHT`. -/
def Grid.allLight : Grid := Vector.replicate 25 (Vector.replicate 25 .light)

/-- The number of DARK cells, row by row. -/
def Grid.darkCount (g : Grid) : Nat :=
  ((List.range 25).map fun r => (List.range 25).countP fun c => g.cell r c == .dark).sum

/-! ### The canvas memory -/

/-- What pixel address `a` holds: `none` where the spec leaves it open (D28). No command reads the
canvas (R76); statements do. -/
def Memory.read (m : Memory) (a : Nat) : Option Pixel := m.lookup a

/-- `M[a] <- v` (R66), keeping the addresses strictly rising. -/
def Memory.write (m : Memory) (a : Nat) (v : Pixel) : Memory :=
  match m with
  | [] => [(a, v)]
  | (b, u) :: rest =>
    if a < b then (a, v) :: (b, u) :: rest
    else if a = b then (a, v) :: rest
    else (b, u) :: Memory.write rest a v

/-- Canvas writes performed in issue order (R73). -/
def Memory.applyWrites (m : Memory) (ws : List (Nat × Pixel)) : Memory :=
  ws.foldl (fun m w => m.write w.1 w.2) m

/-- Every pixel address below `n` at the value `f` gives it, the rest as before. -/
def Memory.paint (m : Memory) (n : Nat) (f : Nat → Pixel) : Memory :=
  ((List.range n).map fun a => (a, f a)) ++ m.filter fun e => n ≤ e.1

/-! ### Responses and refusals -/

/-- `respond(data)`: the success response of a command with opcode byte `echo` (R11, R97). -/
def State.respond (s : State) (echo : Byte) (data : Half) : State :=
  { s with rspOut := s.rspOut ++ [successWord echo data] }

/-- TAKING THE EXCEPTION: `raise Refusal(code)`, "exactly this and nothing more" (R181, R187): the two
fields of `STATUS` and the refusal response. Control goes nowhere and nothing is saved, so there is no
return from it (R188). -/
def State.refuse (s : State) (echo : Byte) (c : RefusalCode) : State :=
  { s with err := true, lasterr := refusalBits c, rspOut := s.rspOut ++ [refusalWord c echo] }

/-! ### Registers -/

/-- What a register reads as (R34, R173). -/
def State.readReg (s : State) : RegName → Half
  | .id => Config.idWord
  | .status => s.status
  | .blen => s.blen.setWidth 16
  | .sizepx => s.sizepx
  | .quietpx => s.quietpx
  | .scale => BitVec.ofInt 16 s.scale
  | .offset => BitVec.ofInt 16 s.offset
  | .cur => s.cur.setWidth 16

/-- The data value of a cell: `1 = DARK`, `0 = LIGHT`, widened to 16 bits (R172). -/
def moduleData : GridModule → Half
  | .light => 0#16
  | .dark => 1#16

/-! ### Reset -/

/-- The bytes of `BUF` after the reset event numbered `n`: free values, since they are "unspecified"
(R40). -/
def freeBuf (n : Nat) : Buf := ⟨((List.range 44).map (Config.resetBufByte n)).toArray, by simp⟩

/-- Every piece of the block's state at its reset value (R40), `BUF` at free values. The canvas, the
channels and the command index are outside the block and stay. -/
def State.resetBlock (s : State) : State :=
  { s with
    buf := freeBuf s.freeCount
    blen := 0#6
    grid := Grid.allLight
    sizepx := Config.sizepxDefault
    quietpx := Config.quietpxDefault
    cur := 0#9
    err := false
    lasterr := 0#4
    freeCount := s.freeCount + 1 }

end Sys2Proof.Machine
end

