-- ==== Sys2Proof/Machine/Structure.lean ====
section
/-! DEFINITION. The Matrix Builder structure commands `GCLR`, `FIND`, `TIME` (41_structure.md). -/

namespace Sys2Proof.Machine

open Host (Outcome)

/-- `GCLR`: "`GRID[r][c] <- LIGHT`" for every `r` and `c` from 0 to 24, all 625 cells, so that nothing of
the old grid is left (R130). -/
def execGclr (s : State) : Outcome State Fault Refusal :=
  .next ({ s with grid := Grid.allLight }.respond Op.gclr.code 0#16)

/-- The module at offset `(i, j)` of a finder: DARK on the ring or in the 3x3 core at offsets 2..4,
LIGHT elsewhere (R131, R132; 90_conflicts.md C1). -/
def finderModule (i j : Int) : GridModule :=
  let ring := (0 ≤ i ∧ i ≤ 6 ∧ (j = 0 ∨ j = 6)) ∨ (0 ≤ j ∧ j ≤ 6 ∧ (i = 0 ∨ i = 6))
  let core := (2 ≤ i ∧ i ≤ 4) ∧ (2 ≤ j ∧ j ≤ 4)
  if ring ∨ core then .dark else .light

/-- The offsets `-1 .. 7` (R131). -/
def finderOffsets : List Int := (List.range 9).map fun n => (n : Int) - 1

/-- The cell writes of a finder at anchor `(r0, c0)`: offsets row by row, those outside the grid
skipped (R131). -/
def finderWrites (r0 c0 : Nat) : List ((Nat × Nat) × GridModule) :=
  finderOffsets.flatMap fun i => finderOffsets.filterMap fun j =>
    let r := (r0 : Int) + i
    let c := (c0 : Int) + j
    if r < 0 ∨ r > 24 ∨ c < 0 ∨ c > 24 then none
    else some ((r.toNat, c.toNat), finderModule i j)

/-- The body of `FIND` at an anchor (R131). -/
def Grid.placeFinder (g : Grid) (anchor : Nat × Nat) : Grid :=
  g.writeCells (finderWrites anchor.1 anchor.2)

/-- `FIND k`: place a finder, `E_RANGE` for `k = 3` with no cell written (R131). -/
def execFind (k : Nat) (s : State) : Outcome State Fault Refusal :=
  match findAnchor k with
  | some anchor => .next ({ s with grid := s.grid.placeFinder anchor }.respond Op.find.code 0#16)
  | none => .next (s.refuse Op.find.code .eRange)

/-- The cell writes of `TIME`: for `i` from 8 to 16, cell `(6, i)` then cell `(i, 6)`, DARK for even `i`
(R134). -/
def timingWrites : List ((Nat × Nat) × GridModule) :=
  (List.range' Config.timingLo (Config.timingHi + 1 - Config.timingLo)).flatMap fun i =>
    let v := if i % 2 = 0 then GridModule.dark else .light
    [((Config.timingLine, i), v), ((i, Config.timingLine), v)]

/-- The body of `TIME` (R134). -/
def Grid.placeTiming (g : Grid) : Grid := g.writeCells timingWrites

/-- `TIME` (R134). -/
def execTime (s : State) : Outcome State Fault Refusal :=
  .next ({ s with grid := s.grid.placeTiming }.respond Op.time.code 0#16)

end Sys2Proof.Machine
end

