-- ==== Sys2Proof/Machine/DataScan.lean ====
section
/-! DEFINITION. The Matrix Builder data scan and its commands `DATA`, `BUILD` (42_datascan.md). -/

namespace Sys2Proof.Machine

open Host (Outcome)

/-- The outer loop of `scan()` (R141): from column `col` and direction `dirUp`, the right column of each
pair scanned and its direction. `fuel` bounds the rounds; `col` falls by at least 2 in each, so 25
rounds end it from `col = 24`. -/
def scanPairs (fuel : Nat) (col : Int) (dirUp : Bool) : List (Int × Bool) :=
  match fuel with
  | 0 => []
  | fuel + 1 =>
    if col > 0 then
      let col := if col = 6 then col - 1 else col
      (col, dirUp) :: scanPairs fuel (col - 2) (!dirUp)
    else []

/-- The inner loops of `scan()` over one column pair: the cells `(row, cc)` in visiting order, right
sub-column first (R141). -/
def pairCells (pair : Int × Bool) : List (Nat × Nat) :=
  (List.range 25).flatMap fun i =>
    let row := if pair.2 then 24 - i else i
    [(row, pair.1.toNat), (row, (pair.1 - 1).toNat)]

/-- Every cell `scan()` visits, in its order (R141, R144). -/
def scanOrder : List (Nat × Nat) := (scanPairs 25 24 true).flatMap pairCells

/-- The reserved test of R142, on the current grid. -/
def Grid.reserved (g : Grid) (row cc : Nat) : Bool :=
  g.cell row cc == .dark || row == Config.timingLine || cc == Config.timingLine

/-- One visit of `scan()`: skip a reserved cell; else place the next source bit if one is left (R141).
The pair is the grid and the bit cursor. -/
def scanVisit (b : Buf) (st : Grid × Nat) (rc : Nat × Nat) : Grid × Nat :=
  if st.1.reserved rc.1 rc.2 then st
  else if st.2 < Config.sourceBits then
    (st.1.setCell rc.1 rc.2 (moduleOfBit (b.bit st.2)), st.2 + 1)
  else st

/-- `scan()` (R141): the grid it leaves and the final bit cursor. Irreducible, so that its 600 visits are
unfolded only where a proof asks for them. -/
@[irreducible] def scan (b : Buf) (g : Grid) : Grid × Nat := scanOrder.foldl (scanVisit b) (g, 0)

/-- Stores what a scan leaves: the grid in `GRID`, the final cursor in `CUR` (R38, R141). -/
def State.withScan (s : State) (left : Grid × Nat) : State :=
  { s with grid := left.1, cur := BitVec.ofNat 9 left.2 }

/-- `DATA`: the scan on the grid as it stands, `E_SHORT` unless `BLEN = 44` (R140). -/
def execData (s : State) : Outcome State Fault Refusal :=
  if s.full then .next ((s.withScan (scan s.buf s.grid)).respond Op.data.code 0#16)
  else .next (s.refuse Op.data.code .eShort)

/-- What the bodies of `GCLR`, `FIND 0`, `FIND 1`, `FIND 2`, `TIME` leave, in this order, from any grid
(R135, R146). -/
def Grid.structural : Grid :=
  (((Grid.allLight.placeFinder (0, 0)).placeFinder (0, 18)).placeFinder (18, 0)).placeTiming

/-- `BUILD`: structure, then the scan, `E_SHORT` unless `BLEN = 44`, checked first (R146). -/
def execBuild (s : State) : Outcome State Fault Refusal :=
  if s.full then .next ((s.withScan (scan s.buf Grid.structural)).respond Op.build.code 0#16)
  else .next (s.refuse Op.build.code .eShort)

end Sys2Proof.Machine
end

