-- ==== Sys2Proof/Machine/Payload.lean ====
section
/-! DEFINITION. The Payload Packer commands `PCLR`, `PUSH`, `PAD` (40_payload.md). -/

namespace Sys2Proof.Machine

open Host (Outcome)

/-- `PCLR`: "Writes `BLEN` only" (R120). -/
def execPclr (s : State) : Outcome State Fault Refusal :=
  .next ({ s with blen := 0#6 }.respond Op.pclr.code 0#16)

/-- `BUF[BLEN] <- v; BLEN <- BLEN + 1` (R121, R123). -/
def State.append (s : State) (v : Byte) : State :=
  { s with buf := s.buf.setByte s.blen.toNat v, blen := s.blen + 1#6 }

/-- `PUSH imm8`: append the byte, or drop it silently when the buffer is full (R121, R122). -/
def execPush (imm8 : Byte) (s : State) : Outcome State Fault Refusal :=
  .next ((if s.blen.toNat < Config.capacity then s.append imm8 else s).respond Op.push.code 0#16)

/-- The loop of R123. `fuel` bounds the rounds of the `while`; each appends at least one byte, so 44
rounds reach `BLEN = 44` from any `BLEN`. -/
def State.padLoop (fuel : Nat) (s : State) : State :=
  match fuel with
  | 0 => s
  | fuel + 1 =>
    if s.blen.toNat < Config.capacity then
      let s := s.append Config.fill0
      if s.blen.toNat = Config.capacity then s
      else State.padLoop fuel (s.append Config.fill1)
    else s

/-- `PAD`: alternate 0xEC, 0x11 until the buffer holds 44 bytes (R123). -/
def execPad (s : State) : Outcome State Fault Refusal :=
  .next ((State.padLoop Config.capacity s).respond Op.pad.code 0#16)

end Sys2Proof.Machine
end

