-- ==== Sys2Proof/Machine/Raster.lean ====
section
/-! DEFINITION. The Rasterizer commands `SETS`, `SETQ`, `RAST` (43_raster.md). -/

namespace Sys2Proof.Machine

open Host (Outcome)

/-- `SETS imm16` (R150). -/
def execSets (imm16 : Half) (s : State) : Outcome State Fault Refusal :=
  .next ({ s with sizepx := imm16 }.respond Op.sets.code 0#16)

/-- `SETQ imm16` (R151). -/
def execSetq (imm16 : Half) (s : State) : Outcome State Fault Refusal :=
  .next ({ s with quietpx := imm16 }.respond Op.setq.code 0#16)

/-- Phase 1 of R156: every pixel WHITE, ascending addresses. -/
def State.whiteWrites (s : State) : List (Nat × Pixel) :=
  (List.range (s.sizepx.toNat * s.sizepx.toNat)).map fun a => (a, Pixel.white)

/-- The black square of cell `(r, c)`, pixel row by pixel row (R156). -/
def State.squareWrites (s : State) (r c : Nat) : List (Nat × Pixel) :=
  let side := s.scale.toNat
  let offset := s.offset.toNat
  (List.range side).flatMap fun dy => (List.range side).map fun dx =>
    let x := offset + c * side + dx
    let y := offset + r * side + dy
    (y * s.sizepx.toNat + x, Pixel.black)

/-- Phase 2 of R156: the square of every DARK cell, row by row. -/
def State.blackWrites (s : State) : List (Nat × Pixel) :=
  (List.range 25).flatMap fun r => (List.range 25).flatMap fun c =>
    if s.grid.cell r c = .dark then s.squareWrites r c else []

/-- The write sequence of `RAST`, in issue order (R156). -/
def State.rastWrites (s : State) : List (Nat × Pixel) := s.whiteWrites ++ s.blackWrites

/-- The pixel `(x, y)` after `RAST`, in closed form (R157). -/
def State.rastPixel (s : State) (x y : Nat) : Pixel :=
  let dx := (x : Int) - s.offset
  let dy := (y : Int) - s.offset
  if 1 ≤ s.scale ∧ 0 ≤ dx ∧ dx < 25 * s.scale ∧ 0 ≤ dy ∧ dy < 25 * s.scale
      ∧ s.grid.cell (dy / s.scale).toNat (dx / s.scale).toNat = .dark
  then Pixel.black else Pixel.white

/-- The canvas after `RAST` in closed form: pixel address `y·S + x` of every pixel of the `S × S` raster
painted, the rest unchanged (R64, R157). -/
def State.rastCanvas (s : State) : Memory :=
  s.canvas.paint (s.sizepx.toNat * s.sizepx.toNat) fun a =>
    s.rastPixel (a % s.sizepx.toNat) (a / s.sizepx.toNat)

/-- `RAST`: the canvas port carries the writes of R156, the canvas holds R157's picture, and the
response follows (R155, R74). The spec lets a model take R157 as the meaning; that it is what the
writes of R156 leave is a statement for the provers. -/
def execRast (s : State) : Outcome State Fault Refusal :=
  .next ({ s with canvas := s.rastCanvas, cvOut := s.cvOut ++ s.rastWrites }.respond Op.rast.code 0#16)

end Sys2Proof.Machine
end

