-- ==== Sys2Proof/Machine/System.lean ====
section
/-! DEFINITION. The system and read-back commands `NOP`, `RST`, `RDB`, `RDG`, `RDR` (44_system.md). -/

namespace Sys2Proof.Machine

open Host (Outcome)

/-- `NOP`: nothing but the response (R170). -/
def execNop (s : State) : Outcome State Fault Refusal :=
  .next (s.respond Op.nop.code 0#16)

/-- `RST`: the reset values of R40, then the response; the canvas is not touched (R174). -/
def execRst (s : State) : Outcome State Fault Refusal :=
  .next (s.resetBlock.respond Op.rst.code 0#16)

/-- `RDB idx`: a valid byte of the buffer, `E_RANGE` when `idx ≥ BLEN` (R171). -/
def execRdb (idx : Nat) (s : State) : Outcome State Fault Refusal :=
  if s.validIndex idx then .next (s.respond Op.rdb.code ((s.buf.byte idx).setWidth 16))
  else .next (s.refuse Op.rdb.code .eRange)

/-- `RDG row, col`: one cell of the grid, `E_RANGE` when `row > 24` or `col > 24` (R172). -/
def execRdg (row col : Nat) (s : State) : Outcome State Fault Refusal :=
  if cellInRange row col then .next (s.respond Op.rdg.code (moduleData (s.grid.cell row col)))
  else .next (s.refuse Op.rdg.code .eRange)

/-- `RDR reg`: one register, `E_RANGE` for `reg ≥ 8` (R173). -/
def execRdr (reg : Nat) (s : State) : Outcome State Fault Refusal :=
  match regOfNumber reg with
  | some r => .next (s.respond Op.rdr.code (s.readReg r))
  | none => .next (s.refuse Op.rdr.code .eRange)

end Sys2Proof.Machine
end

