-- ==== Sys2Proof/Machine/Dispatch.lean ====
section
/-! DEFINITION. The meaning of each command, one arm each. -/

namespace Sys2Proof.Machine

def exec (i : Instr) (s : State) : Host.Outcome State Fault Refusal :=
  match i with
  | .nop => Sys2Proof.Machine.execNop s
  | .rst => Sys2Proof.Machine.execRst s
  | .pclr => Sys2Proof.Machine.execPclr s
  | .push imm8 => Sys2Proof.Machine.execPush imm8 s
  | .pad => Sys2Proof.Machine.execPad s
  | .gclr => Sys2Proof.Machine.execGclr s
  | .find k => Sys2Proof.Machine.execFind k s
  | .time => Sys2Proof.Machine.execTime s
  | .data => Sys2Proof.Machine.execData s
  | .build => Sys2Proof.Machine.execBuild s
  | .sets imm16 => Sys2Proof.Machine.execSets imm16 s
  | .setq imm16 => Sys2Proof.Machine.execSetq imm16 s
  | .rast => Sys2Proof.Machine.execRast s
  | .rdb idx => Sys2Proof.Machine.execRdb idx s
  | .rdg row col => Sys2Proof.Machine.execRdg row col s
  | .rdr reg => Sys2Proof.Machine.execRdr reg s

end Sys2Proof.Machine
end

