-- ==== Sys2Proof/Machine/Fetch.lean ====
section
/-! DEFINITION. What the host presents next (R23, R41) and the hardware reset (R210, R212). -/

namespace Sys2Proof.Machine

/-- What one step has to do. -/
inductive Fetched where
  /-- nothing is presented: the block waits with all state retained (R195) -/
  | idle
  /-- a command word was accepted; the state is the one it runs on -/
  | word (w : Word) (s : State)
  /-- the reset pin was pulled; the state is the one it leaves -/
  | afterReset (s : State)

/-- A command word taken from the channel: the command index advances by exactly 1 (R23). -/
def State.accept (s : State) (rest : List HostInput) : State :=
  { s with inputs := rest, index := s.index + 1 }

/-- Hardware reset while no command is executing: R40's values, the canvas not written (R210). -/
def State.hardReset (s : State) (rest : List HostInput) : State :=
  { s with inputs := rest }.resetBlock

/-- The canvas writes a command has made when it is abandoned: for `RAST` an unspecified prefix of its
sequence (R212), for any other command none (R66: canvas writes only inside `RAST`). -/
def State.abandonedPrefix (s : State) (w : Word) : List (Nat × Pixel) :=
  match decode w with
  | .command .rast => s.rastWrites.take (Config.abandonedWrites s.freeCount)
  | _ => []

/-- Hardware reset while the accepted command `w` is executing: abandoned, no response, the block in
its reset state, the canvas with what the command had already written (R212). -/
def State.cutByReset (s : State) (w : Word) : State :=
  { s with
    canvas := s.canvas.applyWrites (s.abandonedPrefix w)
    cvOut := s.cvOut ++ s.abandonedPrefix w }.resetBlock

/-- Takes what the host presents next. -/
def State.fetch (s : State) : Fetched :=
  match s.inputs with
  | [] => .idle
  | .command w :: rest => .word w (s.accept rest)
  | .commandCut w :: rest => .afterReset ((s.accept rest).cutByReset w)
  | .resetPulse :: rest => .afterReset (s.hardReset rest)

/-- Puts a command word where the next step takes it: first on the command channel. -/
def State.offer (s : State) (w : Word) : State := { s with inputs := .command w :: s.inputs }

end Sys2Proof.Machine
end

