-- ==== Sys2Proof/Machine/Step.lean ====
section
/-! DEFINITION. One step: one command word from acceptance to response, or one reset of the pin, or waiting. -/

namespace Sys2Proof.Machine

/-- One step. An illegal word is refused with its code and nothing else (R94, R95, R181). -/
def step (s : State) : Host.Outcome State Fault Refusal :=
  match s.fetch with
  | .idle => .next s
  | .afterReset s' => .next s'
  | .word w s' =>
    match decode w with
    | .command i => exec i s'
    | .illegal c => .next (s'.refuse (opByte w) c)

/-- `s` with the command word of a table row presented next; bits above `nbits` are 0. -/
def State.withFetchWord (s : State) (nbits w : Nat) : State :=
  s.offer (BitVec.ofNat 32 (w % 2 ^ nbits))

end Sys2Proof.Machine
end

