-- ==== Sys2Proof/Safety.lean ====
section
/-! DEFINITION. The terms the statements use: the invariant of every state, valid buffers, accepted and refused commands. -/

namespace Sys2Proof.Machine

/-- What holds of every state a run reaches: `BLEN ≤ 44` (R25), `CUR ≤ 352` (R38), `LASTERR` is 0 before
the first refusal and one of the codes 1..4 after it (R36, R182), and the canvas has its one form. -/
abbrev State.Inv (s : State) : Prop :=
  s.blen.toNat ≤ 44 ∧ s.cur.toNat ≤ 352 ∧ s.lasterr.toNat ≤ 4 ∧ (s.err = true ↔ s.lasterr ≠ 0#4) ∧ s.canvas.wf

/-- The canvas is what the transfers on the canvas port, performed in issue order, make of a canvas
nothing has been written to (R66, R73). -/
abbrev State.CanvasIsPortHistory (s : State) : Prop := s.canvas = Memory.applyWrites [] s.cvOut

/-- `BUF[i]`. -/
abbrev State.byte (s : State) (i : Nat) : Byte := s.buf.byte i

/-- `GRID[r][c]`. -/
abbrev State.cell (s : State) (r c : Nat) : GridModule := s.grid.cell r c

/-- The pixel at a pixel address of the canvas, `none` where the spec leaves it open. -/
abbrev State.pixel (s : State) (a : Nat) : Option Pixel := s.canvas.read a

end Sys2Proof.Machine
end

