-- ==== Sys2Proof/Certificates/Slice0/SpecTables.lean ====
section
/-! DEFINITION. Tables copied from spec/, independent of the model's own definitions, for the statements to compare it with. -/

namespace Sys2Proof.Spec

/-- R93, one row per command: mnemonic, opcode, match, mask. -/
def r93 : List (Op × Nat × Nat × Nat) :=
  [(.nop, 0x00, 0x00000000, 0xFFFFFFFF), (.rst, 0x01, 0x01000000, 0xFFFFFFFF),
   (.pclr, 0x10, 0x10000000, 0xFFFFFFFF), (.push, 0x11, 0x11000000, 0xFFFFFF00),
   (.pad, 0x12, 0x12000000, 0xFFFFFFFF), (.gclr, 0x20, 0x20000000, 0xFFFFFFFF),
   (.find, 0x21, 0x21000000, 0xFFFFFFFC), (.time, 0x22, 0x22000000, 0xFFFFFFFF),
   (.data, 0x23, 0x23000000, 0xFFFFFFFF), (.build, 0x24, 0x24000000, 0xFFFFFFFF),
   (.sets, 0x30, 0x30000000, 0xFFFF0000), (.setq, 0x31, 0x31000000, 0xFFFF0000),
   (.rast, 0x32, 0x32000000, 0xFFFFFFFF), (.rdb, 0x40, 0x40000000, 0xFFFFFFC0),
   (.rdg, 0x41, 0x41000000, 0xFFFFE0E0), (.rdr, 0x42, 0x42000000, 0xFFFFFFF0)]

/-- R91, R92: the command of a mnemonic whose operands are the fields of the word `n`, as numbers. -/
def r91 (o : Op) (n : Nat) : Instr :=
  match o with
  | .nop => .nop
  | .rst => .rst
  | .pclr => .pclr
  | .push => .push (BitVec.ofNat 8 (n % 256))
  | .pad => .pad
  | .gclr => .gclr
  | .find => .find (n % 4)
  | .time => .time
  | .data => .data
  | .build => .build
  | .sets => .sets (BitVec.ofNat 16 (n % 65536))
  | .setq => .setq (BitVec.ofNat 16 (n % 65536))
  | .rast => .rast
  | .rdb => .rdb (n % 64)
  | .rdg => .rdg (n / 256 % 32) (n % 32)
  | .rdr => .rdr (n % 16)

/-- R182, R183: the code a well-formed command is refused with, 0 where it is accepted, from its operand
and `BLEN`. -/
def r182 (i : Instr) (blen : Nat) : Nat :=
  match i with
  | .find k => if k = 3 then 3 else 0
  | .rdb idx => if blen ≤ idx then 3 else 0
  | .rdg row col => if 24 < row ∨ 24 < col then 3 else 0
  | .rdr reg => if 8 ≤ reg then 3 else 0
  | .data | .build => if blen = 44 then 0 else 4
  | .nop | .rst | .pclr | .push _ | .pad | .gclr | .time | .sets _ | .setq _ | .rast => 0

/-- R132, the picture of the finder: entry `i + 1` is the row of offset `i`, its bit `8 − (j + 1)` the
module at offset `j`, 1 = DARK. -/
def r132 : List Nat :=
  [0b000000000, 0b011111110, 0b010000010, 0b010111010, 0b010111010, 0b010111010, 0b010000010, 0b011111110, 0b000000000]

/-- R132: the module at offsets `i − 1`, `j − 1`. -/
def finderDark (i j : Nat) : Bool := (r132.getD i 0).testBit (8 - j)

/-- R131: the anchors of `FIND 0`, `FIND 1`, `FIND 2`. -/
def anchor (k : Nat) : Nat × Nat := if k = 0 then (0, 0) else if k = 1 then (0, 18) else (18, 0)

/-- R135, the picture of the structural grid: row `r` with column 0 as bit 24, 1 = DARK. -/
def r135 : List Nat :=
  [0x1FC007F, 0x1040041, 0x174005D, 0x174005D, 0x174005D, 0x1040041, 0x1FD557F, 0x0000000,
   0x0040000, 0x0000000, 0x0040000, 0x0000000, 0x0040000, 0x0000000, 0x0040000, 0x0000000,
   0x0040000, 0x0000000, 0x1FC0000, 0x1040000, 0x1740000, 0x1740000, 0x1740000, 0x1040000,
   0x1FC0000]

/-- R135: the cell `(r, c)` of the structural grid. -/
def structural (r c : Nat) : GridModule := if (r135.getD r 0).testBit (24 - c) then .dark else .light

/-- R144: the column pairs in scan order by their right column, and the scan direction, up or not. -/
def r144 : List (Nat × Bool) :=
  [(24, true), (22, false), (20, true), (18, false), (16, true), (14, false), (12, true), (10, false),
   (8, true), (5, false), (3, true), (1, false)]

/-- R144: every cell the scan visits, in order. -/
def visits : List (Nat × Nat) :=
  r144.flatMap fun pair => (List.range 25).flatMap fun i =>
    let row := if pair.2 then 24 - i else i
    [(row, pair.1), (row, pair.1 - 1)]

/-- R9, R62: source bit `k` of a buffer given byte by byte, most significant bit first, as a module. -/
def sourceModule (byte : Nat → Byte) (k : Nat) : GridModule :=
  if (byte (k / 8)).toNat / 2 ^ (7 - k % 8) % 2 = 1 then .dark else .light

/-- R142, R144: the cells a scan of a grid finds free, neither DARK nor in row 6 (nor in column 6, which the
scan never visits), in scan order. -/
def freeCells (cell : Nat → Nat → GridModule) : List (Nat × Nat) :=
  visits.filter fun rc => rc.1 ≠ 6 ∧ cell rc.1 rc.2 ≠ .dark

/-- R32: `scale` for a canvas side and a margin. -/
def r32Scale (side quiet : Nat) : Nat := (max 0 (((side : Int) - 2 * quiet) / 25)).toNat

/-- R32: `offset` for a canvas side and a margin. -/
def r32Offset (side quiet : Nat) : Nat :=
  ((quiet : Int) + ((side : Int) - 2 * quiet - 25 * r32Scale side quiet) / 2).toNat

/-- R34, R173: the value each register reads as. -/
def r34 (s : Machine.State) (reg : Nat) : Nat :=
  match reg with
  | 0 => 0x192C
  | 1 => (if s.err then 1 else 0) + (if s.blen = 44#6 then 2 else 0) + 16 * s.lasterr.toNat
  | 2 => s.blen.toNat
  | 3 => s.sizepx.toNat
  | 4 => s.quietpx.toNat
  | 5 => r32Scale s.sizepx.toNat s.quietpx.toNat
  | 6 => r32Offset s.sizepx.toNat s.quietpx.toNat
  | 7 => s.cur.toNat
  | _ => 0

/-- R156: the write sequence of `RAST` for a canvas side, a scale, an offset and a grid. -/
def r156 (side scale offset : Nat) (cell : Nat → Nat → GridModule) : List (Nat × Pixel) :=
  ((List.range (side * side)).map fun a => (a, 0#1)) ++
    (List.range 25).flatMap fun r => (List.range 25).flatMap fun c =>
      if cell r c = .dark then
        (List.range scale).flatMap fun dy => (List.range scale).map fun dx =>
          ((offset + r * scale + dy) * side + (offset + c * scale + dx), 1#1)
      else []

/-- R157: the pixel `(x, y)` after `RAST`. -/
def r157 (scale offset : Nat) (cell : Nat → Nat → GridModule) (x y : Nat) : Pixel :=
  if 1 ≤ scale ∧ offset ≤ x ∧ x < offset + 25 * scale ∧ offset ≤ y ∧ y < offset + 25 * scale
      ∧ cell ((y - offset) / scale) ((x - offset) / scale) = .dark
  then 1#1 else 0#1

/-- V30, cells of the bits 0 to 87. -/
def v30PartA : List (Nat × Nat) :=
  [
   (24, 24), (24, 23), (23, 24), (23, 23), (22, 24), (22, 23), (21, 24), (21, 23),
   (20, 24), (20, 23), (19, 24), (19, 23), (18, 24), (18, 23), (17, 24), (17, 23),
   (16, 24), (16, 23), (15, 24), (15, 23), (14, 24), (14, 23), (13, 24), (13, 23),
   (12, 24), (12, 23), (11, 24), (11, 23), (10, 24), (10, 23), (9, 24), (9, 23),
   (8, 24), (8, 23), (7, 24), (7, 23), (5, 23), (4, 23), (3, 23), (2, 23),
   (1, 23), (1, 22), (1, 21), (5, 22), (5, 21), (7, 22), (7, 21), (8, 22),
   (8, 21), (9, 22), (9, 21), (10, 22), (10, 21), (11, 22), (11, 21), (12, 22),
   (12, 21), (13, 22), (13, 21), (14, 22), (14, 21), (15, 22), (15, 21), (16, 22),
   (16, 21), (17, 22), (17, 21), (18, 22), (18, 21), (19, 22), (19, 21), (20, 22),
   (20, 21), (21, 22), (21, 21), (22, 22), (22, 21), (23, 22), (23, 21), (24, 22),
   (24, 21), (24, 20), (24, 19), (23, 20), (23, 19), (22, 20), (22, 19), (21, 20)]

/-- V30, cells of the bits 88 to 175. -/
def v30PartB : List (Nat × Nat) :=
  [
   (21, 19), (20, 20), (20, 19), (19, 20), (19, 19), (18, 20), (18, 19), (17, 20),
   (17, 19), (16, 20), (16, 19), (15, 20), (15, 19), (14, 20), (14, 19), (13, 20),
   (13, 19), (12, 20), (12, 19), (11, 20), (11, 19), (10, 20), (10, 19), (9, 20),
   (9, 19), (8, 20), (8, 19), (7, 20), (7, 19), (5, 20), (5, 19), (4, 19),
   (3, 19), (2, 19), (1, 20), (1, 19), (0, 17), (1, 17), (2, 17), (3, 17),
   (4, 17), (5, 17), (7, 18), (7, 17), (8, 18), (8, 17), (9, 18), (9, 17),
   (10, 18), (10, 17), (11, 18), (11, 17), (12, 18), (12, 17), (13, 18), (13, 17),
   (14, 18), (14, 17), (15, 18), (15, 17), (16, 18), (16, 17), (17, 18), (17, 17),
   (18, 18), (18, 17), (19, 18), (19, 17), (20, 18), (20, 17), (21, 18), (21, 17),
   (22, 18), (22, 17), (23, 18), (23, 17), (24, 18), (24, 17), (24, 16), (24, 15),
   (23, 16), (23, 15), (22, 16), (22, 15), (21, 16), (21, 15), (20, 16), (20, 15)]

/-- V30, cells of the bits 176 to 263. -/
def v30PartC : List (Nat × Nat) :=
  [
   (19, 16), (19, 15), (18, 16), (18, 15), (17, 16), (17, 15), (16, 16), (16, 15),
   (15, 16), (15, 15), (14, 16), (14, 15), (13, 16), (13, 15), (12, 16), (12, 15),
   (11, 16), (11, 15), (10, 16), (10, 15), (9, 16), (9, 15), (8, 16), (8, 15),
   (7, 16), (7, 15), (5, 16), (5, 15), (4, 16), (4, 15), (3, 16), (3, 15),
   (2, 16), (2, 15), (1, 16), (1, 15), (0, 16), (0, 15), (0, 14), (0, 13),
   (1, 14), (1, 13), (2, 14), (2, 13), (3, 14), (3, 13), (4, 14), (4, 13),
   (5, 14), (5, 13), (7, 14), (7, 13), (8, 14), (8, 13), (9, 14), (9, 13),
   (10, 14), (10, 13), (11, 14), (11, 13), (12, 14), (12, 13), (13, 14), (13, 13),
   (14, 14), (14, 13), (15, 14), (15, 13), (16, 14), (16, 13), (17, 14), (17, 13),
   (18, 14), (18, 13), (19, 14), (19, 13), (20, 14), (20, 13), (21, 14), (21, 13),
   (22, 14), (22, 13), (23, 14), (23, 13), (24, 14), (24, 13), (24, 12), (24, 11)]

/-- V30, cells of the bits 264 to 351. -/
def v30PartD : List (Nat × Nat) :=
  [
   (23, 12), (23, 11), (22, 12), (22, 11), (21, 12), (21, 11), (20, 12), (20, 11),
   (19, 12), (19, 11), (18, 12), (18, 11), (17, 12), (17, 11), (16, 12), (16, 11),
   (15, 12), (15, 11), (14, 12), (14, 11), (13, 12), (13, 11), (12, 12), (12, 11),
   (11, 12), (11, 11), (10, 12), (10, 11), (9, 12), (9, 11), (8, 12), (8, 11),
   (7, 12), (7, 11), (5, 12), (5, 11), (4, 12), (4, 11), (3, 12), (3, 11),
   (2, 12), (2, 11), (1, 12), (1, 11), (0, 12), (0, 11), (0, 10), (0, 9),
   (1, 10), (1, 9), (2, 10), (2, 9), (3, 10), (3, 9), (4, 10), (4, 9),
   (5, 10), (5, 9), (7, 10), (7, 9), (8, 10), (8, 9), (9, 10), (9, 9),
   (10, 10), (10, 9), (11, 10), (11, 9), (12, 10), (12, 9), (13, 10), (13, 9),
   (14, 10), (14, 9), (15, 10), (15, 9), (16, 10), (16, 9), (17, 10), (17, 9),
   (18, 10), (18, 9), (19, 10), (19, 9), (20, 10), (20, 9), (21, 10), (21, 9)]

/-- V30 (R147): entry `k` is `cell(k)`, the cell source bit `k` lands in on the structural grid. -/
def v30 : List (Nat × Nat) := v30PartA ++ v30PartB ++ v30PartC ++ v30PartD

/-- R148: the 30 LIGHT structural cells the canonical flow overwrites. -/
def r148 : List (Nat × Nat) :=
  [
   (7, 24), (7, 23), (5, 23), (4, 23), (3, 23), (2, 23), (1, 23), (1, 22),
   (1, 21), (5, 22), (5, 21), (7, 22), (7, 21), (7, 20), (7, 19), (5, 20),
   (5, 19), (4, 19), (3, 19), (2, 19), (1, 20), (1, 19), (0, 17), (1, 17),
   (2, 17), (3, 17), (4, 17), (5, 17), (7, 18), (7, 17)]

/-- R132, R134: the cell is structural, that is in a finder's 8x8 footprint or one of the timing cells. -/
def isStructural (r c : Nat) : Bool :=
  (r ≤ 7 && c ≤ 7) || (r ≤ 7 && 17 ≤ c) || (17 ≤ r && c ≤ 7)
    || (r == 6 && 8 ≤ c && c ≤ 16) || (c == 6 && 8 ≤ r && r ≤ 16)

end Sys2Proof.Spec
end

