-- ==== Sys2Proof/Machine/Assembler.lean ====
section
/-! DEFINITION. Around the command set: pseudo-instructions (R99), assembly notation (R98), the host's UTF-8 (R124), grid views (R27). -/

namespace Sys2Proof.Machine

/-- The pseudo-instructions of R99; a text stands here as the bytes of its UTF-8 encoding (R124). -/
inductive Pseudo where
  | pushs (text : List Byte)
  | pack (text : List Byte)
  | encode (text : List Byte)
  | render (size quiet : Half)
  | renderDefault
  | struct
  deriving DecidableEq, Repr

/-- The expansions of R99. -/
def Pseudo.expand : Pseudo → List Instr
  | .pushs text => text.map Instr.push
  | .pack text => .pclr :: (text.map Instr.push ++ [.pad])
  | .encode text => .pclr :: (text.map Instr.push ++ [.pad, .build])
  | .render size quiet => [.sets size, .setq quiet, .rast]
  | .renderDefault => [.sets 256#16, .setq 24#16, .rast]
  | .struct => [.gclr, .find 0, .find 1, .find 2, .time]

/-- Commands executed in order, each to completion before the next (R23, R70). -/
def runCommands (is : List Instr) (s : State) : Host.Outcome State Fault Refusal :=
  match is with
  | [] => .next s
  | i :: rest =>
    match exec i s with
    | .next s' => runCommands rest s'
    | .fault f => .fault f
    | .refused r => .refused r

/-- The UTF-8 bytes of one Unicode scalar value, the host's duty (R124; PRESUMED: the spec takes it from
general knowledge). `none` for a surrogate or a number above 0x10FFFF, which are no scalar values. -/
def utf8Scalar (u : Nat) : Option (List Byte) :=
  let tail (shift : Nat) : Byte := BitVec.ofNat 8 (0x80 + u / 2 ^ shift % 64)
  if u ≤ 0x7F then some [BitVec.ofNat 8 u]
  else if u ≤ 0x7FF then some [BitVec.ofNat 8 (0xC0 + u / 2 ^ 6), tail 0]
  else if 0xD800 ≤ u ∧ u ≤ 0xDFFF then none
  else if u ≤ 0xFFFF then some [BitVec.ofNat 8 (0xE0 + u / 2 ^ 12), tail 6, tail 0]
  else if u ≤ 0x10FFFF then some [BitVec.ofNat 8 (0xF0 + u / 2 ^ 18), tail 12, tail 6, tail 0]
  else none

/-- Characters encoded in string order (R124). -/
def utf8Encode (us : List Nat) : Option (List Byte) := (us.mapM utf8Scalar).map List.flatten

/-- The register names the assembler takes for a number (R34, R98). -/
def registerName : RegName → String
  | .id => "ID"
  | .status => "STATUS"
  | .blen => "BLEN"
  | .sizepx => "SIZEPX"
  | .quietpx => "QUIETPX"
  | .scale => "SCALE"
  | .offset => "OFFSET"
  | .cur => "CUR"

/-- A command in the notation of R98: mnemonic, operands in decimal separated by a comma, a register by
its name where it has one. -/
def assembly : Instr → String
  | .nop => "NOP"
  | .rst => "RST"
  | .pclr => "PCLR"
  | .push imm8 => "PUSH " ++ toString imm8.toNat
  | .pad => "PAD"
  | .gclr => "GCLR"
  | .find k => "FIND " ++ toString k
  | .time => "TIME"
  | .data => "DATA"
  | .build => "BUILD"
  | .sets imm16 => "SETS " ++ toString imm16.toNat
  | .setq imm16 => "SETQ " ++ toString imm16.toNat
  | .rast => "RAST"
  | .rdb idx => "RDB " ++ toString idx
  | .rdg row col => "RDG " ++ toString row ++ ", " ++ toString col
  | .rdr reg => "RDR " ++ ((regOfNumber reg).elim (toString reg) registerName)

/-- The row word of R27 (b): row `r` as the 25-bit number whose bit `24 − c` is `GRID[r][c]`. -/
def Grid.rowWord (g : Grid) (r : Nat) : Nat :=
  (List.range 25).foldl (fun n c => 2 * n + (if g.cell r c = .dark then 1 else 0)) 0

/-- The picture of R27 (a): 25 lines of 25 characters, `#` DARK and `.` LIGHT. -/
def Grid.picture (g : Grid) : List String :=
  (List.range 25).map fun r => String.ofList ((List.range 25).map fun c => if g.cell r c = .dark then '#' else '.')

end Sys2Proof.Machine
end

