-- ==== Sys2Proof/Certificates/Slice0/Obligations.lean ====
section
/-! DEFINITION. The statements for the provers. Numbers and pictures they compare the model with are those of SpecTables. -/

open Sys2Proof Sys2Proof.Machine Sys2Proof.Spec

/-! ### Encoding -/

/-- Decoding the word of a well-formed command gives the command back, every operand at every value its
field admits (R91, R92, R93). -/
def Obligations.DecodeOfEncodeGivesTheCommand : Prop :=
  ∀ i : Instr, i.WellFormed → decode (encode i) = .command i

/-- A word that decodes to a command decodes to a well-formed one, and is the word of that command: no bit
of an accepted word is without meaning (R91, R95). -/
def Obligations.EncodeOfDecodeGivesTheWord : Prop :=
  ∀ (w : Word) (i : Instr), decode w = .command i → i.WellFormed ∧ encode i = w

/-- The decoding procedure of R94 on every word, against the table R93 and the fields R91: an unassigned
opcode is `E_OPCODE`; an assigned one decodes to its command when `w & mask = match`, else `E_RSVD`. -/
def Obligations.DecodeFollowsTheOpcodeTable : Prop :=
  ∀ w : Word,
    ((∀ row ∈ r93, w.toNat / 2 ^ 24 ≠ row.2.1) → decode w = .illegal .eOpcode) ∧
    ∀ row ∈ r93, w.toNat / 2 ^ 24 = row.2.1 →
      decode w = if w.toNat &&& row.2.2.2 = row.2.2.1 then .command (r91 row.1 w.toNat) else .illegal .eRsvd

/-- A few words written out in V50, V51 decode to what the spec says they are. -/
def Obligations.WrittenOutWordsDecode : Prop :=
  decode 0x00000000#32 = .command .nop ∧ decode 0x110000FF#32 = .command (.push 0xFF#8) ∧
  decode 0x21000002#32 = .command (.find 2) ∧ decode 0x3000FFFF#32 = .command (.sets 65535#16) ∧
  decode 0x4000002B#32 = .command (.rdb 43) ∧ decode 0x41000608#32 = .command (.rdg 6 8) ∧
  decode 0x42000007#32 = .command (.rdr 7) ∧ decode 0x41002000#32 = .illegal .eRsvd ∧
  decode 0x55000001#32 = .illegal .eOpcode

/-! ### The step -/

/-- When the word presented next decodes to a command, the step is the meaning of that command on the
state with the word taken from the channel and the command index advanced by 1 (R23, R70). -/
def Obligations.StepRunsTheDecodedCommand : Prop :=
  ∀ (s : State) (w : Word) (rest : List HostInput) (i : Instr),
    s.inputs = .command w :: rest → decode w = .command i →
    step s = exec i { s with inputs := rest, index := s.index + 1 }

/-- When the word presented next is illegal, the step is its refusal: the two fields of STATUS, the
response, the index, and nothing else (R95, R181). -/
def Obligations.StepRefusesAnIllegalWord : Prop :=
  ∀ (s : State) (w : Word) (rest : List HostInput),
    s.inputs = .command w :: rest →
    (decode w = .illegal .eOpcode →
      step s = .next { s with
        inputs := rest, index := s.index + 1, err := true, lasterr := 1#4
        rspOut := s.rspOut ++ [BitVec.ofNat 32 (0x81000000 + w.toNat / 2 ^ 24 * 2 ^ 16)] }) ∧
    (decode w = .illegal .eRsvd →
      step s = .next { s with
        inputs := rest, index := s.index + 1, err := true, lasterr := 2#4
        rspOut := s.rspOut ++ [BitVec.ofNat 32 (0x82000000 + w.toNat / 2 ^ 24 * 2 ^ 16)] })

/-- With nothing presented the block waits, "all state retained" (R195). -/
def Obligations.WaitingBlockKeepsItsState : Prop :=
  ∀ s : State, s.inputs = [] → step s = .next s

/-- No state stops the block: a step always answers a next state (R180: "no fatal or "stuck" condition"). -/
def Obligations.EveryStepAnswersANextState : Prop :=
  ∀ s : State, ∃ t, step s = .next t

/-- Every command word, legal or not, accepted or refused, yields exactly one response, whose `echo` is the
opcode byte, whose bits 30:28 are 0, with `code = 0` when accepted and `code` in 1..4 and `data = 0` when
refused; and the command index advances by exactly 1 (R23, R70, R97). -/
def Obligations.EveryCommandYieldsOneResponse : Prop :=
  ∀ (s : State) (w : Word) (rest : List HostInput), s.inputs = .command w :: rest →
    ∃ t p, step s = .next t ∧ t.rspOut = s.rspOut ++ [p] ∧ t.inputs = rest ∧ t.index = s.index + 1 ∧
      p.extractLsb' 16 8 = w.extractLsb' 24 8 ∧ p.extractLsb' 28 3 = 0#3 ∧
      (p.extractLsb' 31 1 = 0#1 → p.extractLsb' 24 4 = 0#4) ∧
      (p.extractLsb' 31 1 = 1#1 →
        1 ≤ (p.extractLsb' 24 4).toNat ∧ (p.extractLsb' 24 4).toNat ≤ 4 ∧ p.extractLsb' 0 16 = 0#16)

/-- Whatever command word is refused, and for whatever cause, the refusal is R181 and nothing more: ERR,
LASTERR and the response of that code; `BUF`, `BLEN`, `GRID`, `SIZEPX`, `QUIETPX`, `CUR`, the canvas and
every other field are unchanged, and the index advances by one. -/
def Obligations.RefusalChangesOnlyStatus : Prop :=
  ∀ (s : State) (w : Word) (rest : List HostInput) (t : State) (p : Word),
    s.inputs = .command w :: rest → step s = .next t → t.rspOut = s.rspOut ++ [p] →
    p.extractLsb' 31 1 = 1#1 →
    ∃ code : BitVec 4,
      p.toNat = 0x80000000 + code.toNat * 2 ^ 24 + w.toNat / 2 ^ 24 * 2 ^ 16 ∧
      t = { s with
        inputs := rest, index := s.index + 1, err := true, lasterr := code, rspOut := s.rspOut ++ [p] }

/-- When a well-formed command is refused and with which code: `FIND 3`, `RDB idx ≥ BLEN`, `RDG` beyond 24,
`RDR reg ≥ 8` with code 3, `DATA` and `BUILD` on a buffer that is not full with code 4, and no other
command in any state (R182, R183, R184). -/
def Obligations.RefusalCausesAndCodes : Prop :=
  ∀ (i : Instr) (s : State), i.WellFormed →
    ∃ t p, exec i s = .next t ∧ t.rspOut = s.rspOut ++ [p] ∧
      (p.extractLsb' 24 4).toNat = r182 i s.blen.toNat ∧
      (p.extractLsb' 31 1 = 1#1 ↔ r182 i s.blen.toNat ≠ 0)

/-- `ERR` and `LASTERR` are written by refusals and `RST` only: another command that is accepted keeps
both, and no command but `RST` clears `ERR` (R36, R188). -/
def Obligations.StatusIsSticky : Prop :=
  ∀ (i : Instr) (s t : State) (p : Word),
    i ≠ .rst → exec i s = .next t → t.rspOut = s.rspOut ++ [p] →
    (p.extractLsb' 31 1 = 0#1 → t.err = s.err ∧ t.lasterr = s.lasterr) ∧ (s.err = true → t.err = true)

/-- Who writes what (R20, R60): outside the commands its row names, each of the eight pieces of state is as
before; for `STATUS.ERR` and `STATUS.LASTERR`, whose rows name "any refused command" and `RST`, that is
after every other command that answers with an accepted response. The canvas and the canvas port are
`RAST`'s alone; no command takes from the channel or moves the index, which the step does (log entry 2). -/
def Obligations.OnlyTheNamedCommandsWrite : Prop :=
  ∀ (i : Instr) (s t : State), exec i s = .next t →
    (i.op ∉ [Op.push, .pad, .rst] → t.buf = s.buf) ∧
    (i.op ∉ [Op.pclr, .push, .pad, .rst] → t.blen = s.blen) ∧
    (i.op ∉ [Op.gclr, .find, .time, .data, .build, .rst] → t.grid = s.grid) ∧
    (i.op ∉ [Op.sets, .rst] → t.sizepx = s.sizepx) ∧
    (i.op ∉ [Op.setq, .rst] → t.quietpx = s.quietpx) ∧
    (i.op ∉ [Op.data, .build, .rst] → t.cur = s.cur) ∧
    (i.op ∉ [Op.rst] → ∀ p, t.rspOut = s.rspOut ++ [p] → p.extractLsb' 31 1 = 0#1 → t.err = s.err) ∧
    (i.op ∉ [Op.rst] → ∀ p, t.rspOut = s.rspOut ++ [p] → p.extractLsb' 31 1 = 0#1 → t.lasterr = s.lasterr) ∧
    (i.op ≠ .rast → (∀ a, t.pixel a = s.pixel a) ∧ t.cvOut = s.cvOut) ∧
    t.inputs = s.inputs ∧ t.index = s.index

/-! ### Payload Packer -/

/-- `PCLR` writes `BLEN` only and answers 0x00100000 (R120). -/
def Obligations.PclrEmptiesTheBuffer : Prop :=
  ∀ s : State, exec .pclr s = .next { s with blen := 0#6, rspOut := s.rspOut ++ [0x00100000#32] }

/-- `PUSH` below 44 bytes stores the byte at index `BLEN` and adds 1; at 44 or above it is dropped, with
the same response and no other change (R121, R122). -/
def Obligations.PushAppendsOrDrops : Prop :=
  ∀ (s : State) (imm8 : Byte),
    (s.blen.toNat < 44 →
      ∃ t, exec (.push imm8) s = .next t ∧ t.blen.toNat = s.blen.toNat + 1 ∧
        (∀ i, i < 44 → t.byte i = if i = s.blen.toNat then imm8 else s.byte i) ∧
        t = { s with buf := t.buf, blen := t.blen, rspOut := s.rspOut ++ [0x00110000#32] }) ∧
    (44 ≤ s.blen.toNat → exec (.push imm8) s = .next { s with rspOut := s.rspOut ++ [0x00110000#32] })

/-- `PAD` from `L ≤ 44` valid bytes: `BLEN` becomes 44, bytes below `L` stay, from `L` on the filler
alternates 0xEC, 0x11 starting with 0xEC at index `L` (R123). -/
def Obligations.PadFillsAlternating : Prop :=
  ∀ s : State, s.blen.toNat ≤ 44 →
    ∃ t, exec .pad s = .next t ∧ t.blen = 44#6 ∧
      (∀ i, i < 44 → t.byte i =
        if i < s.blen.toNat then s.byte i else if (i - s.blen.toNat) % 2 = 0 then 0xEC#8 else 0x11#8) ∧
      t = { s with buf := t.buf, blen := t.blen, rspOut := s.rspOut ++ [0x00120000#32] }

/-- The canonical packing sequence `PCLR`; one `PUSH` per byte; `PAD`, for any byte list of any length and
from any prior state: 44 bytes, the text first, then the alternating filler, nothing refused (R125). -/
def Obligations.PackingSequenceFillsTheBuffer : Prop :=
  ∀ (s : State) (text : List Byte),
    ∃ t, runCommands (Pseudo.pack text).expand s = .next t ∧ t.blen = 44#6 ∧
      (∀ i, i < 44 → t.byte i =
        if h : i < text.length then text[i] else if (i - text.length) % 2 = 0 then 0xEC#8 else 0x11#8) ∧
      t = { s with
        buf := t.buf, blen := t.blen
        rspOut := s.rspOut ++ (0x00100000#32 :: List.replicate text.length 0x00110000#32 ++ [0x00120000#32]) }

/-! ### Matrix Builder: structure -/

/-- `GCLR` leaves every cell LIGHT and changes nothing else (R130). -/
def Obligations.GclrClearsTheGrid : Prop :=
  ∀ s : State, ∃ t, exec .gclr s = .next t ∧ (∀ r c, r < 25 → c < 25 → t.cell r c = .light) ∧
    t = { s with grid := t.grid, rspOut := s.rspOut ++ [0x00200000#32] }

/-- `FIND k` for `k` = 0, 1, 2 writes the picture of R132 at its anchor, clipped to the grid, and no other
cell (R131, R132). -/
def Obligations.FindPlacesTheFinder : Prop :=
  ∀ (s : State) (k : Nat), k < 3 →
    ∃ t, exec (.find k) s = .next t ∧
      (∀ r c, r < 25 → c < 25 → t.cell r c =
        if (anchor k).1 ≤ r + 1 ∧ r ≤ (anchor k).1 + 7 ∧ (anchor k).2 ≤ c + 1 ∧ c ≤ (anchor k).2 + 7 then
          if finderDark (r + 1 - (anchor k).1) (c + 1 - (anchor k).2) then .dark else .light
        else s.cell r c) ∧
      t = { s with grid := t.grid, rspOut := s.rspOut ++ [0x00210000#32] }

/-- `FIND 3` is refused with `E_RANGE` and writes no cell (R131, V12). -/
def Obligations.FindThreeIsRefused : Prop :=
  ∀ s : State,
    exec (.find 3) s = .next { s with err := true, lasterr := 3#4, rspOut := s.rspOut ++ [0x83210000#32] }

/-- `TIME` writes row 6 columns 8..16 and column 6 rows 8..16, DARK at even indices, and no other cell
(R134). -/
def Obligations.TimePlacesTheTimingLines : Prop :=
  ∀ s : State, ∃ t, exec .time s = .next t ∧
    (∀ r c, r < 25 → c < 25 → t.cell r c =
      if r = 6 ∧ 8 ≤ c ∧ c ≤ 16 then if c % 2 = 0 then .dark else .light
      else if c = 6 ∧ 8 ≤ r ∧ r ≤ 16 then if r % 2 = 0 then .dark else .light
      else s.cell r c) ∧
    t = { s with grid := t.grid, rspOut := s.rspOut ++ [0x00220000#32] }

/-- The three `FIND` commands and `TIME` commute with one another, on any grid (R133). -/
def Obligations.StructureCommandsCommute : Prop :=
  ∀ (s : State), ∀ i ∈ [Instr.find 0, .find 1, .find 2, .time], ∀ j ∈ [Instr.find 0, .find 1, .find 2, .time],
    ∃ t u, runCommands [i, j] s = .next t ∧ runCommands [j, i] s = .next u ∧ t.grid = u.grid

/-- `STRUCT` leaves the grid of R135's picture from any prior state, with 109 DARK cells. -/
def Obligations.StructGivesTheStructuralGrid : Prop :=
  ∀ s : State, ∃ t, runCommands Pseudo.struct.expand s = .next t ∧
    (∀ r c, r < 25 → c < 25 → t.cell r c = structural r c) ∧ t.grid.darkCount = 109

/-! ### Matrix Builder: data scan -/

/-- The model's scan order is that of R144: 12 column pairs, 600 visits, every cell outside column 6
exactly once and no other. -/
def Obligations.ScanVisitsEveryCellOnce : Prop :=
  scanOrder = visits ∧ scanOrder.length = 600 ∧ scanOrder.Nodup ∧
    ∀ r c, (r, c) ∈ scanOrder ↔ r < 25 ∧ c < 25 ∧ c ≠ 6

/-- `DATA` on a full buffer and any grid: of the cells that are neither DARK nor in row 6, taken in the
order of R144, the `k`-th receives source bit `k` while `k < 352`; every other cell is as before; `CUR` is
the number of bits placed; nothing else changes (R140, R141, R142, R145). -/
def Obligations.DataPlacesBitsInScanOrder : Prop :=
  ∀ s : State, s.blen = 44#6 →
    ∃ t, exec .data s = .next t ∧
      t.cur.toNat = min 352 (freeCells s.cell).length ∧
      (∀ k (h : k < (freeCells s.cell).length), k < 352 →
        t.cell (freeCells s.cell)[k].1 (freeCells s.cell)[k].2 = sourceModule s.byte k) ∧
      (∀ r c, r < 25 → c < 25 → (r, c) ∉ (freeCells s.cell).take 352 → t.cell r c = s.cell r c) ∧
      t = { s with grid := t.grid, cur := t.cur, rspOut := s.rspOut ++ [0x00230000#32] }

/-- The scan never writes row 6, column 6 or a cell that is DARK before it (R142 a, b). -/
def Obligations.DataKeepsReservedCells : Prop :=
  ∀ (s t : State), exec .data s = .next t →
    ∀ r c, r < 25 → c < 25 → (r = 6 ∨ c = 6 ∨ s.cell r c = .dark) → t.cell r c = s.cell r c

/-- `DATA` and `BUILD` on a buffer that is not full are refused with `E_SHORT`, the grid as it was (R140,
R146, V25). -/
def Obligations.ShortBufferIsRefused : Prop :=
  ∀ s : State, s.blen ≠ 44#6 →
    exec .data s = .next { s with err := true, lasterr := 4#4, rspOut := s.rspOut ++ [0x84230000#32] } ∧
    exec .build s = .next { s with err := true, lasterr := 4#4, rspOut := s.rspOut ++ [0x84240000#32] }

/-- `BUILD` on a full buffer, from any grid: source bit `k` lands in the cell V30 tabulates, every other
cell holds the structural grid of R135, `CUR = 352`, nothing else changes (R146, R147). -/
def Obligations.BuildPlacesEveryBitInItsCell : Prop :=
  ∀ s : State, s.blen = 44#6 →
    ∃ t, exec .build s = .next t ∧ t.cur = 352#9 ∧
      (∀ k (h : k < v30.length), t.cell v30[k].1 v30[k].2 = sourceModule s.byte k) ∧
      (∀ r c, r < 25 → c < 25 → (r, c) ∉ v30 → t.cell r c = structural r c) ∧
      t = { s with grid := t.grid, cur := t.cur, rspOut := s.rspOut ++ [0x00240000#32] }

/-- `BUILD` leaves what the six commands `GCLR`, `FIND 0`, `FIND 1`, `FIND 2`, `TIME`, `DATA` issued one
after another leave, but for the responses (R146). -/
def Obligations.BuildEqualsItsSixCommands : Prop :=
  ∀ s : State, s.blen = 44#6 →
    ∃ t u, exec .build s = .next t ∧
      runCommands [.gclr, .find 0, .find 1, .find 2, .time, .data] s = .next u ∧
      t = { u with rspOut := t.rspOut }

/-- After `BUILD`, for every buffer: the fixed points (0,0), (3,3) DARK and (1,1) LIGHT, the timing
alternation in row 6 and column 6, and every DARK cell of the structural grid DARK (R134, R148). -/
def Obligations.BuildKeepsTheFixedPoints : Prop :=
  ∀ (s t : State), s.blen = 44#6 → exec .build s = .next t →
    t.cell 0 0 = .dark ∧ t.cell 3 3 = .dark ∧ t.cell 1 1 = .light ∧
    (∀ i, 8 ≤ i → i ≤ 16 → (t.cell 6 i = .dark ↔ i % 2 = 0) ∧ (t.cell i 6 = .dark ↔ i % 2 = 0)) ∧
    ∀ r c, r < 25 → c < 25 → structural r c = .dark → t.cell r c = .dark

/-- The LIGHT structural cells that `BUILD` makes DARK for some buffer are exactly the 30 of R148. -/
def Obligations.ExactlyThirtyStructuralCellsAreOverwritten : Prop :=
  ∀ r c, r < 25 → c < 25 → isStructural r c = true → structural r c = .light →
    ((∃ s t : State, s.blen = 44#6 ∧ exec .build s = .next t ∧ t.cell r c = .dark) ↔ (r, c) ∈ r148)

/-! ### Rasterizer -/

/-- `SETS` and `SETQ` load their register, whatever the value, and change nothing else (R150, R151). -/
def Obligations.SetsAndSetqLoadTheirRegister : Prop :=
  ∀ (s : State) (v : Half),
    exec (.sets v) s = .next { s with sizepx := v, rspOut := s.rspOut ++ [0x00300000#32] } ∧
    exec (.setq v) s = .next { s with quietpx := v, rspOut := s.rspOut ++ [0x00310000#32] }

/-- The facts of R33 about the derived quantities, in each of its cases and in every state. -/
def Obligations.RasterGeometryFacts : Prop :=
  ∀ s : State,
    (0 ≤ s.inner →
      s.scale = s.inner / 25 ∧ s.inner - s.gridpx = s.inner % 25 ∧
      0 ≤ s.inner % 25 ∧ s.inner % 25 ≤ 24 ∧ s.center = s.inner % 25 / 2 ∧ 0 ≤ s.center ∧ s.center ≤ 12 ∧
      (s.quietpx.toNat : Int) ≤ s.offset ∧
      s.offset + s.gridpx = s.sizepx.toNat - s.quietpx.toNat - (s.inner % 25 + 1) / 2 ∧
      s.offset + s.gridpx ≤ s.sizepx.toNat - s.quietpx.toNat) ∧
    (s.inner < 0 →
      s.scale = 0 ∧ s.gridpx = 0 ∧ s.center = s.inner / 2 ∧
      s.inner / 2 = (s.sizepx.toNat : Int) / 2 - s.quietpx.toNat ∧ s.offset = (s.sizepx.toNat : Int) / 2) ∧
    (0 ≤ s.inner → s.inner < 25 →
      s.scale = 0 ∧ s.gridpx = 0 ∧ s.offset = s.quietpx.toNat + s.inner / 2 ∧
      s.offset = (s.sizepx.toNat : Int) / 2) ∧
    0 ≤ s.offset ∧ s.offset ≤ 32779 ∧ 0 ≤ s.scale ∧ s.scale ≤ 2621

/-- `RAST` paints every pixel `(x, y)` of the `S × S` raster, at address `y·S + x`, as R157 says, leaves
every pixel beyond `S·S − 1` as before, and writes no state of the block (R155, R157). -/
def Obligations.RastPaintsTheClosedForm : Prop :=
  ∀ s : State, ∃ t, exec .rast s = .next t ∧
    (∀ x y, x < s.sizepx.toNat → y < s.sizepx.toNat →
      t.pixel (y * s.sizepx.toNat + x) =
        some (r157 (r32Scale s.sizepx.toNat s.quietpx.toNat) (r32Offset s.sizepx.toNat s.quietpx.toNat) s.cell x y)) ∧
    (∀ a, s.sizepx.toNat * s.sizepx.toNat ≤ a → t.pixel a = s.pixel a) ∧
    t = { s with canvas := t.canvas, cvOut := t.cvOut, rspOut := s.rspOut ++ [0x00320000#32] }

/-- The canvas `RAST` leaves is what the write sequence of R156 makes of the old one, and that sequence is
what went over the canvas port, in its order: the white phase in ascending addresses, then each DARK
cell's square row by row (R73, R156, R157). -/
def Obligations.RastCanvasIsWhatItsWritesMake : Prop :=
  ∀ s : State, s.canvas.wf →
    ∃ t ws, exec .rast s = .next t ∧
      ws = r156 s.sizepx.toNat (r32Scale s.sizepx.toNat s.quietpx.toNat) (r32Offset s.sizepx.toNat s.quietpx.toNat) s.cell ∧
      t.cvOut = s.cvOut ++ ws ∧ t.canvas = s.canvas.applyWrites ws

/-- Every write of `RAST` is at an address below `S·S`, hence fits 32 bits, and there are
`S² + scale² × (DARK cells)` of them (R64, R66, R156, R226). -/
def Obligations.RastWritesStayOnTheCanvas : Prop :=
  ∀ (s t : State), exec .rast s = .next t →
    ∃ ws, t.cvOut = s.cvOut ++ ws ∧
      (∀ e ∈ ws, e.1 < s.sizepx.toNat * s.sizepx.toNat ∧ e.1 < 2 ^ 32) ∧
      ws.length = s.sizepx.toNat * s.sizepx.toNat +
        r32Scale s.sizepx.toNat s.quietpx.toNat * r32Scale s.sizepx.toNat s.quietpx.toNat * s.grid.darkCount

/-- A pixel that `RAST` leaves BLACK has at least `QUIETPX` pixels of canvas beyond it on every side
(R33, R158). -/
def Obligations.RastKeepsTheQuietMargin : Prop :=
  ∀ (s t : State) (x y : Nat), exec .rast s = .next t → x < s.sizepx.toNat → y < s.sizepx.toNat →
    t.pixel (y * s.sizepx.toNat + x) = some 1#1 →
    s.quietpx.toNat ≤ x ∧ x + s.quietpx.toNat < s.sizepx.toNat ∧
    s.quietpx.toNat ≤ y ∧ y + s.quietpx.toNat < s.sizepx.toNat

/-- `inner < 25`, negative `inner` included: `RAST` is not refused, writes no black pixel and leaves the
canvas entirely WHITE (R153, R154). -/
def Obligations.RastDegenerateCaseIsAllWhite : Prop :=
  ∀ s : State, (s.sizepx.toNat : Int) - 2 * s.quietpx.toNat < 25 →
    ∃ t, exec .rast s = .next t ∧
      (∀ a, a < s.sizepx.toNat * s.sizepx.toNat → t.pixel a = some 0#1) ∧
      (∀ a, s.sizepx.toNat * s.sizepx.toNat ≤ a → t.pixel a = s.pixel a) ∧
      t = { s with
        canvas := t.canvas
        cvOut := s.cvOut ++ (List.range (s.sizepx.toNat * s.sizepx.toNat)).map fun a => (a, 0#1)
        rspOut := s.rspOut ++ [0x00320000#32] }

/-! ### System and read-back -/

/-- `NOP` answers 0x00000000 and changes nothing else, "not even `STATUS`" (R170). -/
def Obligations.NopOnlyResponds : Prop :=
  ∀ s : State, exec .nop s = .next { s with rspOut := s.rspOut ++ [0x00000000#32] }

/-- `RST` sets every piece of the block's state to its reset value, leaves `BUF` wholly invalid
(`BLEN = 0`), and touches neither the canvas nor the channels but for its response (R40, R174). That
`freeCount`, the model's own counter, moves is the model's choice (log entry 5). -/
def Obligations.RstRestoresTheResetValues : Prop :=
  ∀ s : State, ∃ t, exec .rst s = .next t ∧ (∀ r c, r < 25 → c < 25 → t.cell r c = .light) ∧
    t = { s with
      buf := t.buf, blen := 0#6, grid := t.grid, sizepx := 256#16, quietpx := 24#16, cur := 0#9
      err := false, lasterr := 0#4, rspOut := s.rspOut ++ [0x00010000#32], freeCount := t.freeCount }

/-- `RDB idx` answers a valid byte, zero-extended; an invalid index is refused with `E_RANGE` (R171). -/
def Obligations.RdbReadsAValidByte : Prop :=
  ∀ (s : State) (idx : Nat),
    (idx < s.blen.toNat →
      exec (.rdb idx) s =
        .next { s with rspOut := s.rspOut ++ [BitVec.ofNat 32 (0x00400000 + (s.byte idx).toNat)] }) ∧
    (s.blen.toNat ≤ idx →
      exec (.rdb idx) s =
        .next { s with err := true, lasterr := 3#4, rspOut := s.rspOut ++ [0x83400000#32] })

/-- `RDG row, col` answers 1 for a DARK cell and 0 for a LIGHT one; beyond 24 it is refused with `E_RANGE`
(R172). -/
def Obligations.RdgReadsACell : Prop :=
  ∀ (s : State) (row col : Nat),
    (row ≤ 24 ∧ col ≤ 24 →
      exec (.rdg row col) s = .next { s with
        rspOut := s.rspOut ++ [if s.cell row col = .dark then 0x00410001#32 else 0x00410000#32] }) ∧
    (24 < row ∨ 24 < col →
      exec (.rdg row col) s =
        .next { s with err := true, lasterr := 3#4, rspOut := s.rspOut ++ [0x83410000#32] })

/-- `RDR reg` answers each register of R34: `ID`, `STATUS` as `ERR | FULL<<1 | LASTERR<<4`, `BLEN`,
`SIZEPX`, `QUIETPX`, `SCALE` and `OFFSET` by R32, `CUR`; a reserved number is refused with `E_RANGE` (R32,
R34, R35, R36, R173). -/
def Obligations.RdrReadsEveryRegister : Prop :=
  ∀ (s : State) (reg : Nat),
    (reg < 8 → r34 s reg < 2 ^ 16 ∧
      exec (.rdr reg) s = .next { s with rspOut := s.rspOut ++ [BitVec.ofNat 32 (0x00420000 + r34 s reg)] }) ∧
    (8 ≤ reg →
      exec (.rdr reg) s =
        .next { s with err := true, lasterr := 3#4, rspOut := s.rspOut ++ [0x83420000#32] })

/-- An accepted `RDB`, `RDG` or `RDR` leaves the state as it was but for its response, so that put before
any command sequence it alters neither what the sequence leaves nor its responses (R176). -/
def Obligations.ReadBackIsPure : Prop :=
  ∀ (i : Instr) (s t : State) (p : Word) (js : List Instr),
    i.op ∈ [Op.rdb, .rdg, .rdr] → exec i s = .next t → t.rspOut = s.rspOut ++ [p] →
    p.extractLsb' 31 1 = 0#1 →
    t = { s with rspOut := s.rspOut ++ [p] } ∧
    ∃ u v ps, runCommands js s = .next u ∧ runCommands js t = .next v ∧
      u.rspOut = s.rspOut ++ ps ∧ v.rspOut = t.rspOut ++ ps ∧ v = { u with rspOut := v.rspOut }

/-! ### Reset -/

/-- `State.reset`: every piece of the block's state, and the derived `FULL`, `SCALE` and `OFFSET`, at the
value the spec gives right after hardware reset (R40, R210); the bytes of `BUF`, which it leaves
unspecified, are not spoken of. Two clauses are no reset values but the model's bookkeeping at the start:
the command index begins at 0 (R23), and the response history is empty (the model's choice, log entry 4).
A later hardware reset keeps both (log entry 14). -/
def Obligations.ResetValues : Prop :=
  State.reset.blen = 0#6 ∧ (∀ r c, r < 25 → c < 25 → State.reset.cell r c = .light) ∧
  State.reset.sizepx = 256#16 ∧ State.reset.quietpx = 24#16 ∧ State.reset.cur = 0#9 ∧
  State.reset.err = false ∧ State.reset.lasterr = 0#4 ∧ State.reset.rspOut = [] ∧ State.reset.index = 0 ∧
  State.reset.full = false ∧ State.reset.scale = 8 ∧ State.reset.offset = 28

/-- A pulse of `rst_n` between commands: every reset value of R40, no response, the canvas not written
(R210). What the rules do not say is the model's choice: the command index, the inputs still to come and
the histories `rspOut` and `cvOut` are kept (log entry 14), and `freeCount`, the model's own counter, moves
(log entry 5). -/
def Obligations.ResetPulseRestoresTheResetValues : Prop :=
  ∀ (s : State) (rest : List HostInput), s.inputs = .resetPulse :: rest →
    ∃ t, step s = .next t ∧ (∀ r c, r < 25 → c < 25 → t.cell r c = .light) ∧
      t = { s with
        buf := t.buf, blen := 0#6, grid := t.grid, sizepx := 256#16, quietpx := 24#16, cur := 0#9
        err := false, lasterr := 0#4, inputs := rest, freeCount := t.freeCount }

/-- `rst_n` falling while a command executes: the command is abandoned without a response, the state
becomes the reset state, and the canvas holds some prefix of the write sequence when the command was
`RAST`, and is untouched when it was any other word (R212). What the rule does not say is the model's
choice: the index counts the abandoned word (log entry 6), the inputs still to come and the histories
`rspOut` and, but for that prefix, `cvOut` are kept (log entry 14), and `freeCount`, the model's own
counter, moves (log entry 5). -/
def Obligations.ResetDuringACommandAbandonsIt : Prop :=
  ∀ (s : State) (w : Word) (rest : List HostInput), s.inputs = .commandCut w :: rest →
    ∃ t ws u all, step s = .next t ∧ exec .rast s = .next u ∧ u.cvOut = s.cvOut ++ all ∧ ws <+: all ∧
      (w ≠ 0x32000000#32 → ws = []) ∧ t.canvas = s.canvas.applyWrites ws ∧
      (∀ r c, r < 25 → c < 25 → t.cell r c = .light) ∧
      t = { s with
        buf := t.buf, blen := 0#6, grid := t.grid, sizepx := 256#16, quietpx := 24#16, cur := 0#9
        err := false, lasterr := 0#4, canvas := t.canvas, cvOut := s.cvOut ++ ws
        inputs := rest, index := s.index + 1, freeCount := t.freeCount }

/-! ### Invariants -/

/-- The invariant holds right after reset. -/
def Obligations.InvariantHoldsAtReset : Prop := State.reset.Inv ∧ State.reset.CanvasIsPortHistory

/-- Every step keeps: `BLEN ≤ 44`, `CUR ≤ 352`, `LASTERR` a code the block can raise and 0 exactly while
`ERR` is 0, the canvas in its one form (R25, R36, R38, R182). -/
def Obligations.StepKeepsTheInvariant : Prop :=
  ∀ s t : State, s.Inv → step s = .next t → t.Inv

/-- Every step keeps: the canvas is exactly what the transfers on the canvas port, performed in issue order,
have made of a canvas nothing was written to (R66, R73). -/
def Obligations.StepKeepsTheCanvasThePortHistory : Prop :=
  ∀ s t : State, s.CanvasIsPortHistory → step s = .next t → t.CanvasIsPortHistory

/-- Only `RAST` writes the canvas: a step after which some pixel reads otherwise took the word of `RAST`,
to its end or cut short by reset (R60, R66). -/
def Obligations.OnlyRastChangesTheCanvas : Prop :=
  ∀ (s t : State) (a : Nat), step s = .next t → t.pixel a ≠ s.pixel a →
    ∃ rest, s.inputs = .command 0x32000000#32 :: rest ∨ s.inputs = .commandCut 0x32000000#32 :: rest

/-! ### The canonical sequence -/

/-- The canonical sequence is never refused: for any text and any size and margin, the expansions of
`ENCODE` and `RENDER` are accepted command by command, from any state (R185). -/
def Obligations.CanonicalSequenceIsNeverRefused : Prop :=
  ∀ (s : State) (text : List Byte) (size quiet : Half),
    ∃ t ps, runCommands ((Pseudo.encode text).expand ++ (Pseudo.render size quiet).expand) s = .next t ∧
      t.rspOut = s.rspOut ++ ps ∧ ps.length = text.length + 6 ∧ (∀ p ∈ ps, p.extractLsb' 31 1 = 0#1) ∧
      t.err = s.err ∧ t.lasterr = s.lasterr

/-- The result of the canonical sequence depends only on the bytes, the size and the margin: from any two
states it leaves the same byte buffer (its 44 bytes and `BLEN`), grid, cursor and canvas (R21). -/
def Obligations.CanonicalSequenceForgetsThePast : Prop :=
  ∀ (s₁ s₂ t₁ t₂ : State) (text : List Byte) (size quiet : Half),
    runCommands ((Pseudo.encode text).expand ++ (Pseudo.render size quiet).expand) s₁ = .next t₁ →
    runCommands ((Pseudo.encode text).expand ++ (Pseudo.render size quiet).expand) s₂ = .next t₂ →
    t₁.buf = t₂.buf ∧ t₁.blen = t₂.blen ∧ t₁.grid = t₂.grid ∧ t₁.cur = t₂.cur ∧
    ∀ a, a < size.toNat * size.toNat → t₁.pixel a = t₂.pixel a
end

