-- ==== Sys2Proof/Laws/State.lean ====
section
/-! SUPPORT. One lemma per field per update of State, all true by unfolding the update once. -/

namespace Sys2Proof.Machine

variable (s : State)

/-! ### `State.respond` -/

@[simp] theorem State.respond_buf (echo : Byte) (data : Half) : (s.respond echo data).buf = s.buf := rfl
@[simp] theorem State.respond_blen (echo : Byte) (data : Half) : (s.respond echo data).blen = s.blen := rfl
@[simp] theorem State.respond_grid (echo : Byte) (data : Half) : (s.respond echo data).grid = s.grid := rfl
@[simp] theorem State.respond_sizepx (echo : Byte) (data : Half) : (s.respond echo data).sizepx = s.sizepx := rfl
@[simp] theorem State.respond_quietpx (echo : Byte) (data : Half) : (s.respond echo data).quietpx = s.quietpx := rfl
@[simp] theorem State.respond_cur (echo : Byte) (data : Half) : (s.respond echo data).cur = s.cur := rfl
@[simp] theorem State.respond_err (echo : Byte) (data : Half) : (s.respond echo data).err = s.err := rfl
@[simp] theorem State.respond_lasterr (echo : Byte) (data : Half) : (s.respond echo data).lasterr = s.lasterr := rfl
@[simp] theorem State.respond_canvas (echo : Byte) (data : Half) : (s.respond echo data).canvas = s.canvas := rfl
@[simp] theorem State.respond_inputs (echo : Byte) (data : Half) : (s.respond echo data).inputs = s.inputs := rfl
@[simp] theorem State.respond_index (echo : Byte) (data : Half) : (s.respond echo data).index = s.index := rfl
@[simp] theorem State.respond_rspOut (echo : Byte) (data : Half) : (s.respond echo data).rspOut = s.rspOut ++ [successWord echo data] := rfl
@[simp] theorem State.respond_cvOut (echo : Byte) (data : Half) : (s.respond echo data).cvOut = s.cvOut := rfl
@[simp] theorem State.respond_freeCount (echo : Byte) (data : Half) : (s.respond echo data).freeCount = s.freeCount := rfl

/-! ### `State.refuse` -/

@[simp] theorem State.refuse_buf (echo : Byte) (c : RefusalCode) : (s.refuse echo c).buf = s.buf := rfl
@[simp] theorem State.refuse_blen (echo : Byte) (c : RefusalCode) : (s.refuse echo c).blen = s.blen := rfl
@[simp] theorem State.refuse_grid (echo : Byte) (c : RefusalCode) : (s.refuse echo c).grid = s.grid := rfl
@[simp] theorem State.refuse_sizepx (echo : Byte) (c : RefusalCode) : (s.refuse echo c).sizepx = s.sizepx := rfl
@[simp] theorem State.refuse_quietpx (echo : Byte) (c : RefusalCode) : (s.refuse echo c).quietpx = s.quietpx := rfl
@[simp] theorem State.refuse_cur (echo : Byte) (c : RefusalCode) : (s.refuse echo c).cur = s.cur := rfl
@[simp] theorem State.refuse_err (echo : Byte) (c : RefusalCode) : (s.refuse echo c).err = true := rfl
@[simp] theorem State.refuse_lasterr (echo : Byte) (c : RefusalCode) : (s.refuse echo c).lasterr = refusalBits c := rfl
@[simp] theorem State.refuse_canvas (echo : Byte) (c : RefusalCode) : (s.refuse echo c).canvas = s.canvas := rfl
@[simp] theorem State.refuse_inputs (echo : Byte) (c : RefusalCode) : (s.refuse echo c).inputs = s.inputs := rfl
@[simp] theorem State.refuse_index (echo : Byte) (c : RefusalCode) : (s.refuse echo c).index = s.index := rfl
@[simp] theorem State.refuse_rspOut (echo : Byte) (c : RefusalCode) : (s.refuse echo c).rspOut = s.rspOut ++ [refusalWord c echo] := rfl
@[simp] theorem State.refuse_cvOut (echo : Byte) (c : RefusalCode) : (s.refuse echo c).cvOut = s.cvOut := rfl
@[simp] theorem State.refuse_freeCount (echo : Byte) (c : RefusalCode) : (s.refuse echo c).freeCount = s.freeCount := rfl

/-! ### `State.resetBlock` -/

@[simp] theorem State.resetBlock_buf : s.resetBlock.buf = freeBuf s.freeCount := rfl
@[simp] theorem State.resetBlock_blen : s.resetBlock.blen = 0#6 := rfl
@[simp] theorem State.resetBlock_grid : s.resetBlock.grid = Grid.allLight := rfl
@[simp] theorem State.resetBlock_sizepx : s.resetBlock.sizepx = 256#16 := rfl
@[simp] theorem State.resetBlock_quietpx : s.resetBlock.quietpx = 24#16 := rfl
@[simp] theorem State.resetBlock_cur : s.resetBlock.cur = 0#9 := rfl
@[simp] theorem State.resetBlock_err : s.resetBlock.err = false := rfl
@[simp] theorem State.resetBlock_lasterr : s.resetBlock.lasterr = 0#4 := rfl
@[simp] theorem State.resetBlock_canvas : s.resetBlock.canvas = s.canvas := rfl
@[simp] theorem State.resetBlock_inputs : s.resetBlock.inputs = s.inputs := rfl
@[simp] theorem State.resetBlock_index : s.resetBlock.index = s.index := rfl
@[simp] theorem State.resetBlock_rspOut : s.resetBlock.rspOut = s.rspOut := rfl
@[simp] theorem State.resetBlock_cvOut : s.resetBlock.cvOut = s.cvOut := rfl
@[simp] theorem State.resetBlock_freeCount : s.resetBlock.freeCount = s.freeCount + 1 := rfl

/-! ### `State.accept` -/

@[simp] theorem State.accept_buf (rest : List HostInput) : (s.accept rest).buf = s.buf := rfl
@[simp] theorem State.accept_blen (rest : List HostInput) : (s.accept rest).blen = s.blen := rfl
@[simp] theorem State.accept_grid (rest : List HostInput) : (s.accept rest).grid = s.grid := rfl
@[simp] theorem State.accept_sizepx (rest : List HostInput) : (s.accept rest).sizepx = s.sizepx := rfl
@[simp] theorem State.accept_quietpx (rest : List HostInput) : (s.accept rest).quietpx = s.quietpx := rfl
@[simp] theorem State.accept_cur (rest : List HostInput) : (s.accept rest).cur = s.cur := rfl
@[simp] theorem State.accept_err (rest : List HostInput) : (s.accept rest).err = s.err := rfl
@[simp] theorem State.accept_lasterr (rest : List HostInput) : (s.accept rest).lasterr = s.lasterr := rfl
@[simp] theorem State.accept_canvas (rest : List HostInput) : (s.accept rest).canvas = s.canvas := rfl
@[simp] theorem State.accept_inputs (rest : List HostInput) : (s.accept rest).inputs = rest := rfl
@[simp] theorem State.accept_index (rest : List HostInput) : (s.accept rest).index = s.index + 1 := rfl
@[simp] theorem State.accept_rspOut (rest : List HostInput) : (s.accept rest).rspOut = s.rspOut := rfl
@[simp] theorem State.accept_cvOut (rest : List HostInput) : (s.accept rest).cvOut = s.cvOut := rfl
@[simp] theorem State.accept_freeCount (rest : List HostInput) : (s.accept rest).freeCount = s.freeCount := rfl

/-! ### `State.append` -/

@[simp] theorem State.append_buf (v : Byte) : (s.append v).buf = s.buf.setByte s.blen.toNat v := rfl
@[simp] theorem State.append_blen (v : Byte) : (s.append v).blen = s.blen + 1#6 := rfl
@[simp] theorem State.append_grid (v : Byte) : (s.append v).grid = s.grid := rfl
@[simp] theorem State.append_sizepx (v : Byte) : (s.append v).sizepx = s.sizepx := rfl
@[simp] theorem State.append_quietpx (v : Byte) : (s.append v).quietpx = s.quietpx := rfl
@[simp] theorem State.append_cur (v : Byte) : (s.append v).cur = s.cur := rfl
@[simp] theorem State.append_err (v : Byte) : (s.append v).err = s.err := rfl
@[simp] theorem State.append_lasterr (v : Byte) : (s.append v).lasterr = s.lasterr := rfl
@[simp] theorem State.append_canvas (v : Byte) : (s.append v).canvas = s.canvas := rfl
@[simp] theorem State.append_inputs (v : Byte) : (s.append v).inputs = s.inputs := rfl
@[simp] theorem State.append_index (v : Byte) : (s.append v).index = s.index := rfl
@[simp] theorem State.append_rspOut (v : Byte) : (s.append v).rspOut = s.rspOut := rfl
@[simp] theorem State.append_cvOut (v : Byte) : (s.append v).cvOut = s.cvOut := rfl
@[simp] theorem State.append_freeCount (v : Byte) : (s.append v).freeCount = s.freeCount := rfl

/-! ### `State.withScan` -/

@[simp] theorem State.withScan_buf (left : Grid × Nat) : (s.withScan left).buf = s.buf := rfl
@[simp] theorem State.withScan_blen (left : Grid × Nat) : (s.withScan left).blen = s.blen := rfl
@[simp] theorem State.withScan_grid (left : Grid × Nat) : (s.withScan left).grid = left.1 := rfl
@[simp] theorem State.withScan_sizepx (left : Grid × Nat) : (s.withScan left).sizepx = s.sizepx := rfl
@[simp] theorem State.withScan_quietpx (left : Grid × Nat) : (s.withScan left).quietpx = s.quietpx := rfl
@[simp] theorem State.withScan_cur (left : Grid × Nat) : (s.withScan left).cur = BitVec.ofNat 9 left.2 := rfl
@[simp] theorem State.withScan_err (left : Grid × Nat) : (s.withScan left).err = s.err := rfl
@[simp] theorem State.withScan_lasterr (left : Grid × Nat) : (s.withScan left).lasterr = s.lasterr := rfl
@[simp] theorem State.withScan_canvas (left : Grid × Nat) : (s.withScan left).canvas = s.canvas := rfl
@[simp] theorem State.withScan_inputs (left : Grid × Nat) : (s.withScan left).inputs = s.inputs := rfl
@[simp] theorem State.withScan_index (left : Grid × Nat) : (s.withScan left).index = s.index := rfl
@[simp] theorem State.withScan_rspOut (left : Grid × Nat) : (s.withScan left).rspOut = s.rspOut := rfl
@[simp] theorem State.withScan_cvOut (left : Grid × Nat) : (s.withScan left).cvOut = s.cvOut := rfl
@[simp] theorem State.withScan_freeCount (left : Grid × Nat) : (s.withScan left).freeCount = s.freeCount := rfl

/-! ### `State.offer` -/

@[simp] theorem State.offer_buf (w : Word) : (s.offer w).buf = s.buf := rfl
@[simp] theorem State.offer_blen (w : Word) : (s.offer w).blen = s.blen := rfl
@[simp] theorem State.offer_grid (w : Word) : (s.offer w).grid = s.grid := rfl
@[simp] theorem State.offer_sizepx (w : Word) : (s.offer w).sizepx = s.sizepx := rfl
@[simp] theorem State.offer_quietpx (w : Word) : (s.offer w).quietpx = s.quietpx := rfl
@[simp] theorem State.offer_cur (w : Word) : (s.offer w).cur = s.cur := rfl
@[simp] theorem State.offer_err (w : Word) : (s.offer w).err = s.err := rfl
@[simp] theorem State.offer_lasterr (w : Word) : (s.offer w).lasterr = s.lasterr := rfl
@[simp] theorem State.offer_canvas (w : Word) : (s.offer w).canvas = s.canvas := rfl
@[simp] theorem State.offer_inputs (w : Word) : (s.offer w).inputs = .command w :: s.inputs := rfl
@[simp] theorem State.offer_index (w : Word) : (s.offer w).index = s.index := rfl
@[simp] theorem State.offer_rspOut (w : Word) : (s.offer w).rspOut = s.rspOut := rfl
@[simp] theorem State.offer_cvOut (w : Word) : (s.offer w).cvOut = s.cvOut := rfl
@[simp] theorem State.offer_freeCount (w : Word) : (s.offer w).freeCount = s.freeCount := rfl

end Sys2Proof.Machine
end

