-- ==== Sys2Proof/Laws/Words.lean ====
section
/-! SUPPORT. The fields of a response word and of the STATUS word. -/

namespace Sys2Proof.Machine

/-- Appended bits as a number. -/
theorem toNat_append_eq {n m : Nat} (x : BitVec n) (y : BitVec m) : (x ++ y).toNat = x.toNat * 2 ^ m + y.toNat := by
  rw [BitVec.toNat_append, ← Nat.shiftLeft_add_eq_or_of_lt y.isLt, Nat.shiftLeft_eq]

/-- A field of a word read as a number. -/
theorem toNat_field (w : Word) (lo n : Nat) : (w.extractLsb' lo n).toNat = w.toNat / 2 ^ lo % 2 ^ n := by
  rw [BitVec.extractLsb'_toNat, Nat.shiftRight_eq_div_pow]

variable (err : Bool) (code : BitVec 4) (echo : Byte) (data : Half)

/-- The response word as the sum of its fields (R97). -/
theorem responseWord_toNat :
    (responseWord err code echo data).toNat =
      err.toNat * 2 ^ 31 + code.toNat * 2 ^ 24 + echo.toNat * 2 ^ 16 + data.toNat := by
  have h1 := code.isLt; have h2 := echo.isLt; have h3 := data.isLt
  simp only [responseWord, toNat_append_eq, BitVec.toNat_ofBool, BitVec.toNat_ofNat]
  cases err <;> simp <;> omega

@[simp] theorem responseWord_err : (responseWord err code echo data).extractLsb' 31 1 = BitVec.ofBool err := by
  have h1 := code.isLt; have h2 := echo.isLt; have h3 := data.isLt
  apply BitVec.eq_of_toNat_eq
  rw [toNat_field, responseWord_toNat]
  cases err <;> simp <;> omega

@[simp] theorem responseWord_zero : (responseWord err code echo data).extractLsb' 28 3 = 0#3 := by
  have h1 := code.isLt; have h2 := echo.isLt; have h3 := data.isLt
  apply BitVec.eq_of_toNat_eq
  rw [toNat_field, responseWord_toNat]
  cases err <;> simp <;> omega

@[simp] theorem responseWord_code : (responseWord err code echo data).extractLsb' 24 4 = code := by
  have h1 := code.isLt; have h2 := echo.isLt; have h3 := data.isLt
  apply BitVec.eq_of_toNat_eq
  rw [toNat_field, responseWord_toNat]
  cases err <;> simp <;> omega

@[simp] theorem responseWord_echo : (responseWord err code echo data).extractLsb' 16 8 = echo := by
  have h1 := code.isLt; have h2 := echo.isLt; have h3 := data.isLt
  apply BitVec.eq_of_toNat_eq
  rw [toNat_field, responseWord_toNat]
  cases err <;> simp <;> omega

@[simp] theorem responseWord_data : (responseWord err code echo data).extractLsb' 0 16 = data := by
  have h1 := code.isLt; have h2 := echo.isLt; have h3 := data.isLt
  apply BitVec.eq_of_toNat_eq
  rw [toNat_field, responseWord_toNat]
  cases err <;> simp <;> omega

/-- The STATUS word as the sum of its fields (R36). -/
theorem State.status_toNat (s : State) :
    s.status.toNat = s.err.toNat + 2 * s.full.toNat + 16 * s.lasterr.toNat := by
  simp only [State.status, toNat_append_eq, BitVec.toNat_ofBool, BitVec.toNat_ofNat]
  omega

end Sys2Proof.Machine
end

