-- ==== Sys2Proof/Laws/Encode.lean ====
section
/-! SUPPORT. The word of each command as the sum of its fields (R91), and a word's fields as numbers. -/

namespace Sys2Proof

open Sys2Proof.Machine

/-- An operand-free word is its opcode byte over zeros. -/
theorem toNat_bare (b : Byte) : (b ++ 0#24).toNat = b.toNat * 2 ^ 24 := by
  rw [toNat_append_eq]; simp

theorem encode_push_toNat (imm8 : Byte) : (encode (.push imm8)).toNat = 0x11 * 2 ^ 24 + imm8.toNat := by
  show (Instr.opcode _ ++ 0#16 ++ imm8).toNat = _
  simp only [toNat_append_eq]
  simp [Instr.opcode, Instr.op, Op.code]

theorem encode_find_toNat (k : Nat) : (encode (.find k)).toNat = 0x21 * 2 ^ 24 + k % 2 ^ 2 := by
  show (Instr.opcode _ ++ 0#22 ++ BitVec.ofNat 2 k).toNat = _
  simp only [toNat_append_eq]
  simp [Instr.opcode, Instr.op, Op.code]

theorem encode_sets_toNat (imm16 : Half) : (encode (.sets imm16)).toNat = 0x30 * 2 ^ 24 + imm16.toNat := by
  show (Instr.opcode _ ++ 0#8 ++ imm16).toNat = _
  simp only [toNat_append_eq]
  simp [Instr.opcode, Instr.op, Op.code]

theorem encode_setq_toNat (imm16 : Half) : (encode (.setq imm16)).toNat = 0x31 * 2 ^ 24 + imm16.toNat := by
  show (Instr.opcode _ ++ 0#8 ++ imm16).toNat = _
  simp only [toNat_append_eq]
  simp [Instr.opcode, Instr.op, Op.code]

theorem encode_rdb_toNat (idx : Nat) : (encode (.rdb idx)).toNat = 0x40 * 2 ^ 24 + idx % 2 ^ 6 := by
  show (Instr.opcode _ ++ 0#18 ++ BitVec.ofNat 6 idx).toNat = _
  simp only [toNat_append_eq]
  simp [Instr.opcode, Instr.op, Op.code]

theorem encode_rdg_toNat (row col : Nat) :
    (encode (.rdg row col)).toNat = 0x41 * 2 ^ 24 + row % 2 ^ 5 * 2 ^ 8 + col % 2 ^ 5 := by
  show (Instr.opcode _ ++ 0#11 ++ BitVec.ofNat 5 row ++ 0#3 ++ BitVec.ofNat 5 col).toNat = _
  simp only [toNat_append_eq]
  simp [Instr.opcode, Instr.op, Op.code]
  omega

theorem encode_rdr_toNat (reg : Nat) : (encode (.rdr reg)).toNat = 0x42 * 2 ^ 24 + reg % 2 ^ 4 := by
  show (Instr.opcode _ ++ 0#20 ++ BitVec.ofNat 4 reg).toNat = _
  simp only [toNat_append_eq]
  simp [Instr.opcode, Instr.op, Op.code]

/-- The top byte of a word as a number. -/
theorem opByte_toNat (w : Word) : (opByte w).toNat = w.toNat / 2 ^ 24 := by
  have := w.isLt
  rw [opByte, toNat_field]; omega

end Sys2Proof
end

