-- ==== Sys2Proof/Laws/Grid.lean ====
section
/-! SUPPORT. Reading the buffer and the grid back after a write. -/

namespace Sys2Proof.Machine

/-! ### Buffer -/

/-- A byte written inside the buffer is the byte read there; every other byte is as before. -/
theorem Buf.byte_setByte (b : Buf) (i j : Nat) (v : Byte) :
    (b.setByte i v).byte j = if i = j ∧ i < 44 then v else b.byte j := by
  unfold Buf.byte Buf.setByte
  rw [Vector.getElem?_setIfInBounds]
  by_cases h : i = j
  · subst h
    by_cases h2 : i < 44 <;> simp [h2]
  · simp [h]

/-! ### Grid -/

/-- Every cell of the cleared grid is LIGHT. -/
@[simp] theorem Grid.cell_allLight (r c : Nat) : Grid.allLight.cell r c = .light := by
  unfold Grid.cell Grid.allLight
  rw [Vector.getElem?_replicate]
  split
  · rw [Option.bind_some, Vector.getElem?_replicate]
    split <;> rfl
  · rfl

/-- A cell written inside the grid holds the value written; every other cell is as before. -/
theorem Grid.cell_setCell (g : Grid) (r c r' c' : Nat) (v : GridModule) :
    (g.setCell r c v).cell r' c' = if (r = r' ∧ c = c') ∧ r < 25 ∧ c < 25 then v else g.cell r' c' := by
  unfold Grid.cell Grid.setCell
  rw [Vector.getElem?_setIfInBounds]
  by_cases hr : r = r'
  · subst hr
    by_cases hr2 : r < 25
    · by_cases hc : c = c'
      · subst hc
        by_cases hc2 : c < 25 <;> simp_all
      · simp_all
    · simp [hr2]
  · simp [hr]

/-- Writes in list order: a cell inside the grid holds what the last write to it left, and is as before
where no write names it. -/
theorem Grid.cell_writeCells (ws : List ((Nat × Nat) × GridModule)) (g : Grid) {r c : Nat} (hr : r < 25) (hc : c < 25) :
    (g.writeCells ws).cell r c = ((ws.reverse.find? fun w => w.1 == (r, c)).map Prod.snd).getD (g.cell r c) := by
  induction ws generalizing g with
  | nil => rfl
  | cons w ws ih =>
    have : g.writeCells (w :: ws) = (g.setCell w.1.1 w.1.2 w.2).writeCells ws := rfl
    rw [this, ih, List.reverse_cons, List.find?_append]
    cases hfind : ws.reverse.find? fun w => w.1 == (r, c) with
    | some u => simp
    | none =>
      obtain ⟨⟨r', c'⟩, v⟩ := w
      by_cases h : (r', c') = (r, c)
      · obtain ⟨rfl, rfl⟩ := Prod.mk.inj h
        simp [Grid.cell_setCell, hr, hc]
      · have h' : ¬ (r' = r ∧ c' = c) := fun e => h (by rw [e.1, e.2])
        simp [Grid.cell_setCell, h']

/-- Two grids that agree on every cell are equal. -/
theorem Grid.ext_cell {g h : Grid} (H : ∀ r c, r < 25 → c < 25 → g.cell r c = h.cell r c) : g = h := by
  ext r hr c hc
  have := H r c hr hc
  simpa [Grid.cell, hr, hc] using this

end Sys2Proof.Machine
end

