-- ==== Sys2Proof/Laws/Memory.lean ====
section
/-! SUPPORT. The canvas memory: every operation keeps its one form, and what reading answers after each. -/

namespace Sys2Proof.Machine

namespace Memory

/-- The canvas after reset has the one form. -/
theorem wf_nil : Memory.wf [] := List.Pairwise.nil

@[simp] theorem read_nil (a : Nat) : Memory.read [] a = none := rfl

theorem read_cons (b : Nat) (u : Pixel) (m : Memory) (a : Nat) :
    Memory.read ((b, u) :: m) a = if a = b then some u else Memory.read m a := by
  unfold Memory.read
  rw [List.lookup_cons]
  by_cases h : a = b
  · simp [h]
  · rw [beq_false_of_ne h, if_neg h]

/-- The form of a memory with a first entry. -/
theorem wf_cons {b : Nat} {u : Pixel} {m : Memory} :
    Memory.wf ((b, u) :: m) ↔ (∀ e ∈ m, b < e.1) ∧ Memory.wf m := by
  simp [Memory.wf, List.pairwise_cons]

/-- An address below every listed one reads as no value. -/
theorem read_eq_none_of_lt {m : Memory} {a : Nat} (h : ∀ e ∈ m, a < e.1) : m.read a = none := by
  induction m with
  | nil => rfl
  | cons e m ih =>
    obtain ⟨b, u⟩ := e
    have h1 := h (b, u) (List.mem_cons_self ..)
    rw [read_cons, if_neg (by simp at h1; omega)]
    exact ih fun e he => h e (List.mem_cons_of_mem _ he)

/-- A pixel written is the pixel read; every other pixel is as before. -/
theorem read_write (m : Memory) (a b : Nat) (v : Pixel) :
    (m.write a v).read b = if b = a then some v else m.read b := by
  induction m with
  | nil => rw [Memory.write, read_cons]
  | cons e m ih =>
    obtain ⟨c, u⟩ := e
    rw [Memory.write]
    split
    · rw [read_cons]
    · split
      · rename_i h; subst h
        rw [read_cons, read_cons]
        split <;> rfl
      · rename_i h1 h2
        rw [read_cons, read_cons, ih]
        by_cases hb : b = c
        · subst hb; rw [if_pos rfl, if_neg (fun h => h2 h.symm)]; simp
        · simp [hb]

/-- Every entry after a write is the one written or an old one. -/
theorem mem_write {m : Memory} {a : Nat} {v : Pixel} {e : Nat × Pixel} (h : e ∈ m.write a v) : e = (a, v) ∨ e ∈ m := by
  induction m with
  | nil => exact .inl (by simpa [Memory.write] using h)
  | cons f m ih =>
    obtain ⟨c, u⟩ := f
    rw [Memory.write] at h
    split at h
    · simpa using h
    · split at h
      · rcases List.mem_cons.mp h with h | h
        · exact .inl h
        · exact .inr (List.mem_cons_of_mem _ h)
      · rcases List.mem_cons.mp h with h | h
        · exact .inr (h ▸ List.mem_cons_self ..)
        · exact (ih h).imp id (List.mem_cons_of_mem _)

/-- A write keeps the one form. -/
theorem wf_write {m : Memory} (h : m.wf) (a : Nat) (v : Pixel) : (m.write a v).wf := by
  induction m with
  | nil => simp [Memory.write, Memory.wf]
  | cons f m ih =>
    obtain ⟨c, u⟩ := f
    have ⟨h1, h2⟩ := wf_cons.mp h
    rw [Memory.write]
    split
    · rename_i hlt
      refine wf_cons.mpr ⟨fun e he => ?_, h⟩
      rcases List.mem_cons.mp he with rfl | he
      · exact hlt
      · exact hlt.trans (h1 e he)
    · split
      · rename_i heq; subst heq
        exact wf_cons.mpr ⟨h1, h2⟩
      · refine wf_cons.mpr ⟨fun e he => ?_, ih h2⟩
        rcases mem_write he with rfl | he
        · simp; omega
        · exact h1 e he

/-- Writes in issue order keep the one form. -/
theorem wf_applyWrites (ws : List (Nat × Pixel)) {m : Memory} (h : m.wf) : (m.applyWrites ws).wf := by
  induction ws generalizing m with
  | nil => exact h
  | cons w ws ih => exact ih (wf_write h w.1 w.2)

theorem applyWrites_append (m : Memory) (ws vs : List (Nat × Pixel)) :
    m.applyWrites (ws ++ vs) = (m.applyWrites ws).applyWrites vs := List.foldl_append ..

/-- After writes in issue order a pixel holds the last value written to it, and is as before where no
write names it. -/
theorem read_applyWrites (ws : List (Nat × Pixel)) (m : Memory) (a : Nat) :
    (m.applyWrites ws).read a = (ws.reverse.lookup a).or (m.read a) := by
  induction ws generalizing m with
  | nil => rfl
  | cons w ws ih =>
    obtain ⟨b, v⟩ := w
    have : m.applyWrites ((b, v) :: ws) = (m.write b v).applyWrites ws := rfl
    rw [this, ih, read_write, List.reverse_cons, List.lookup_append]
    by_cases h : a = b
    · simp [h]
    · simp [h, List.lookup_cons, beq_false_of_ne h]

theorem read_append (m k : Memory) (a : Nat) : Memory.read (m ++ k) a = (m.read a).or (Memory.read k a) :=
  List.lookup_append ..

/-- Reading a list of addresses painted by a function. -/
theorem read_map (f : Nat → Pixel) (l : List Nat) (a : Nat) :
    Memory.read (l.map fun b => (b, f b)) a = if a ∈ l then some (f a) else none := by
  induction l with
  | nil => rfl
  | cons b l ih =>
    rw [List.map_cons, read_cons, ih]
    by_cases h : a = b
    · subst h; simp
    · simp [h]

/-- Reading above a bound the entries above it. -/
theorem read_filter_le (m : Memory) (n a : Nat) :
    Memory.read (m.filter fun e => n ≤ e.1) a = if n ≤ a then m.read a else none := by
  induction m with
  | nil => simp
  | cons e m ih =>
    obtain ⟨b, u⟩ := e
    rw [List.filter_cons, read_cons]
    by_cases h : n ≤ b
    · rw [if_pos (by simpa using h), read_cons, ih]
      by_cases hab : a = b
      · subst hab; simp [h]
      · simp [hab]
    · rw [if_neg (by simpa using h), ih]
      by_cases hab : a = b
      · subst hab; simp [h]
      · simp [hab]

/-- A painted canvas: below the bound the painted pixel, elsewhere as before. -/
theorem read_paint (m : Memory) (n : Nat) (f : Nat → Pixel) (a : Nat) :
    (m.paint n f).read a = if a < n then some (f a) else m.read a := by
  unfold Memory.paint
  rw [read_append, read_map, read_filter_le]
  by_cases h : a < n
  · simp [h]
  · simp [h, Nat.not_lt.mp h]

/-- Painting keeps the one form. -/
theorem wf_paint {m : Memory} (h : m.wf) (n : Nat) (f : Nat → Pixel) : (m.paint n f).wf := by
  have hr : ((List.range n).map fun a => (a, f a)).map Prod.fst = List.range n := by simp [Function.comp_def]
  have hf : ((m.filter fun e => n ≤ e.1).map Prod.fst).Pairwise (· < ·) :=
    List.Pairwise.sublist (List.Sublist.map _ List.filter_sublist) h
  unfold Memory.paint Memory.wf
  rw [List.map_append, List.pairwise_append, hr]
  refine ⟨List.pairwise_lt_range, hf, fun a ha b hb => ?_⟩
  obtain ⟨e, he, rfl⟩ := List.mem_map.mp hb
  have h1 := List.mem_range.mp ha
  have h2 : n ≤ e.1 := by simpa using (List.mem_filter.mp he).2
  omega

/-- Two canvases of the one form that read alike are equal. -/
theorem ext_read {m k : Memory} (hm : m.wf) (hk : k.wf) (h : ∀ a, m.read a = Memory.read k a) : m = k := by
  induction m generalizing k with
  | nil =>
    cases k with
    | nil => rfl
    | cons e k => obtain ⟨b, u⟩ := e; simpa [read_cons] using h b
  | cons e m ih =>
    obtain ⟨b, u⟩ := e
    have ⟨hb, hm'⟩ := wf_cons.mp hm
    cases k with
    | nil => simpa [read_cons] using h b
    | cons f k =>
      obtain ⟨c, v⟩ := f
      have ⟨hc, hk'⟩ := wf_cons.mp hk
      have hbc : b = c := by
        rcases Nat.lt_trichotomy b c with hlt | heq | hgt
        · have := h b
          rw [read_cons, if_pos rfl, read_cons, if_neg (by omega),
            read_eq_none_of_lt fun e he => hlt.trans (hc e he)] at this
          cases this
        · exact heq
        · have := h c
          rw [read_cons, if_neg (by omega), read_cons, if_pos rfl,
            read_eq_none_of_lt fun e he => hgt.trans (hb e he)] at this
          cases this
      subst hbc
      have huv : u = v := by have := h b; simpa [read_cons] using this
      subst huv
      refine congrArg _ (ih hm' hk' fun a => ?_)
      by_cases ha : a = b
      · subst ha
        rw [read_eq_none_of_lt hb, read_eq_none_of_lt hc]
      · have := h a
        rwa [read_cons, read_cons, if_neg ha, if_neg ha] at this

end Memory

/-- The canvas at reset has the one form. -/
theorem State.reset_canvas_wf : State.reset.canvas.wf := Memory.wf_nil

end Sys2Proof.Machine
end

