-- ==== Sys2Proof/Laws/PerInstr.lean ====
section
/-! SUPPORT. A fact of every command's encoding, one lemma per constructor: the top byte of its word is its opcode (R90). -/

namespace Sys2Proof.Laws.OpcodeByte

/-- The top byte of a command's word is the opcode of its row in R93. -/
def Statement (i : Instr) : Prop := opByte (encode i) = i.op.code

/-- The top byte of an operand-free word is its opcode. -/
theorem bare (b : Byte) : opByte (b ++ 0#24) = b := by
  apply BitVec.eq_of_toNat_eq
  rw [opByte_toNat, toNat_bare]; omega

theorem nop : Statement .nop := bare _
theorem rst : Statement .rst := bare _
theorem pclr : Statement .pclr := bare _
theorem push (imm8 : Byte) : Statement (.push imm8) := by
  apply BitVec.eq_of_toNat_eq
  have := imm8.isLt
  rw [opByte_toNat, encode_push_toNat]; change _ = 0x11; omega
theorem pad : Statement .pad := bare _
theorem gclr : Statement .gclr := bare _
theorem find (k : Nat) : Statement (.find k) := by
  apply BitVec.eq_of_toNat_eq
  rw [opByte_toNat, encode_find_toNat]; change _ = 0x21; omega
theorem time : Statement .time := bare _
theorem data : Statement .data := bare _
theorem build : Statement .build := bare _
theorem sets (imm16 : Half) : Statement (.sets imm16) := by
  apply BitVec.eq_of_toNat_eq
  have := imm16.isLt
  rw [opByte_toNat, encode_sets_toNat]; change _ = 0x30; omega
theorem setq (imm16 : Half) : Statement (.setq imm16) := by
  apply BitVec.eq_of_toNat_eq
  have := imm16.isLt
  rw [opByte_toNat, encode_setq_toNat]; change _ = 0x31; omega
theorem rast : Statement .rast := bare _
theorem rdb (idx : Nat) : Statement (.rdb idx) := by
  apply BitVec.eq_of_toNat_eq
  rw [opByte_toNat, encode_rdb_toNat]; change _ = 0x40; omega
theorem rdg (row col : Nat) : Statement (.rdg row col) := by
  apply BitVec.eq_of_toNat_eq
  rw [opByte_toNat, encode_rdg_toNat]; change _ = 0x41; omega
theorem rdr (reg : Nat) : Statement (.rdr reg) := by
  apply BitVec.eq_of_toNat_eq
  rw [opByte_toNat, encode_rdr_toNat]; change _ = 0x42; omega

end Sys2Proof.Laws.OpcodeByte
end

