-- ==== Sys2Proof/Laws/Scan.lean ====
section
/-! SUPPORT. What one visit of the data scan can do, what `DATA` and `BUILD` can do, and what the bytes of a freshly reset buffer are. -/

namespace Sys2Proof.Machine

/-- A visit either leaves everything as it was (the cell is reserved, or no bit is left), or places the next
bit in a cell that is not reserved and moves the cursor (R141). -/
theorem scanVisit_cases (b : Buf) (st : Grid × Nat) (rc : Nat × Nat) :
    (scanVisit b st rc = st ∧ (st.1.reserved rc.1 rc.2 = true ∨ 352 ≤ st.2)) ∨
    (st.1.reserved rc.1 rc.2 = false ∧ st.2 < 352 ∧
      scanVisit b st rc = (st.1.setCell rc.1 rc.2 (moduleOfBit (b.bit st.2)), st.2 + 1)) := by
  unfold scanVisit
  cases h : st.1.reserved rc.1 rc.2
  · by_cases h2 : st.2 < 352
    · exact .inr ⟨rfl, h2, by simp [h2]⟩
    · exact .inl ⟨by simp [h2], .inr (Nat.not_lt.mp h2)⟩
  · exact .inl ⟨by simp, .inl rfl⟩

/-- A visit reads back as before everywhere but at its own cell. -/
theorem scanVisit_cell_ne (b : Buf) (st : Grid × Nat) {rc : Nat × Nat} {r c : Nat} (h : rc ≠ (r, c)) :
    (scanVisit b st rc).1.cell r c = st.1.cell r c := by
  rcases scanVisit_cases b st rc with ⟨e, -⟩ | ⟨-, -, e⟩
  · rw [e]
  · rw [e, Grid.cell_setCell, if_neg]
    rintro ⟨⟨rfl, rfl⟩, -⟩
    exact h rfl

/-- The cursor never passes 352. -/
theorem scanVisit_cursor_le (b : Buf) {st : Grid × Nat} (rc : Nat × Nat) (h : st.2 ≤ 352) :
    (scanVisit b st rc).2 ≤ 352 := by
  rcases scanVisit_cases b st rc with ⟨e, -⟩ | ⟨-, h2, e⟩
  · rwa [e]
  · rw [e]; exact h2

/-- The bytes of a buffer after a reset event are its free values (R40). -/
theorem freeBuf_byte (n i : Nat) (h : i < 44) : (freeBuf n).byte i = Config.resetBufByte n i := by
  simp [freeBuf, Buf.byte, h]

/-- Two buffers that agree on every byte are equal. -/
theorem Buf.ext_byte {b d : Buf} (H : ∀ i, i < 44 → b.byte i = d.byte i) : b = d := by
  ext i hi
  have := H i hi
  simp [Buf.byte, hi] at this
  rw [this]

/-! ### `DATA` and `BUILD` over a named scan

Each names what the scan leaves (`left`), so that a proof can keep it a variable and forget what it is: the
kernel then never unfolds the 600 visits. -/

/-- `DATA` on a full buffer stores what the scan of the grid as it stands leaves (R140). -/
theorem exec_data_full {s : State} (h : s.full = true) :
    ∃ left, scan s.buf s.grid = left ∧ exec .data s = .next ((s.withScan left).respond Op.data.code 0#16) :=
  ⟨_, rfl, if_pos h⟩

/-- `DATA` on a buffer that is not full is refused with `E_SHORT` (R140). -/
theorem exec_data_short {s : State} (h : ¬ s.full = true) :
    exec .data s = .next (s.refuse Op.data.code .eShort) := if_neg h

/-- All that `DATA` can do (R140). -/
theorem exec_data_cases {s t : State} (h : exec .data s = .next t) :
    (s.full = true ∧ ∃ left, scan s.buf s.grid = left ∧ t = (s.withScan left).respond Op.data.code 0#16) ∨
    (¬ s.full = true ∧ t = s.refuse Op.data.code .eShort) := by
  by_cases hf : s.full = true
  · obtain ⟨left, hl, e⟩ := exec_data_full hf
    exact .inl ⟨hf, left, hl, Host.Outcome.next.inj (h.symm.trans e)⟩
  · exact .inr ⟨hf, Host.Outcome.next.inj (h.symm.trans (exec_data_short hf))⟩

/-- `BUILD` on a full buffer stores what the scan of the structural grid leaves (R146). -/
theorem exec_build_full {s : State} (h : s.full = true) :
    ∃ left, scan s.buf Grid.structural = left ∧
      exec .build s = .next ((s.withScan left).respond Op.build.code 0#16) :=
  ⟨_, rfl, if_pos h⟩

/-- `BUILD` on a buffer that is not full is refused with `E_SHORT` (R146). -/
theorem exec_build_short {s : State} (h : ¬ s.full = true) :
    exec .build s = .next (s.refuse Op.build.code .eShort) := if_neg h

/-- All that `BUILD` can do (R146). -/
theorem exec_build_cases {s t : State} (h : exec .build s = .next t) :
    (s.full = true ∧
      ∃ left, scan s.buf Grid.structural = left ∧ t = (s.withScan left).respond Op.build.code 0#16) ∨
    (¬ s.full = true ∧ t = s.refuse Op.build.code .eShort) := by
  by_cases hf : s.full = true
  · obtain ⟨left, hl, e⟩ := exec_build_full hf
    exact .inl ⟨hf, left, hl, Host.Outcome.next.inj (h.symm.trans e)⟩
  · exact .inr ⟨hf, Host.Outcome.next.inj (h.symm.trans (exec_build_short hf))⟩

end Sys2Proof.Machine
end

