-- ==== Sys2Proof/Tests/Slice0.lean ====
section
/-! SUPPORT. Tests: ill-formed commands refused, words of the spec's encodings, one step per command against the spec's vectors, a witness for the hypotheses of every statement. -/

namespace Sys2Proof.Tests

open Sys2Proof.Machine Sys2Proof.Spec

/-! ### Ill-formed commands -/

theorem test_wellFormed_refuses_find_4 : ¬ (Instr.find 4).WellFormed := by decide
theorem test_wellFormed_refuses_rdb_64 : ¬ (Instr.rdb 64).WellFormed := by decide
theorem test_wellFormed_refuses_rdg_row_32 : ¬ (Instr.rdg 32 0).WellFormed := by decide
theorem test_wellFormed_refuses_rdg_col_32 : ¬ (Instr.rdg 0 32).WellFormed := by decide
theorem test_wellFormed_refuses_rdr_16 : ¬ (Instr.rdr 16).WellFormed := by decide

/-! ### Words written out from R91 and R93, field by field -/

theorem test_decode_nop : decode (0b00000000#8 ++ 0#24) = .command .nop := by decide
theorem test_decode_rst : decode (0b00000001#8 ++ 0#24) = .command .rst := by decide
theorem test_decode_pclr : decode (0b00010000#8 ++ 0#24) = .command .pclr := by decide
theorem test_decode_push : decode (0b00010001#8 ++ 0#16 ++ 0b01101000#8) = .command (.push 0x68#8) := by decide
theorem test_decode_pad : decode (0b00010010#8 ++ 0#24) = .command .pad := by decide
theorem test_decode_gclr : decode (0b00100000#8 ++ 0#24) = .command .gclr := by decide
theorem test_decode_find : decode (0b00100001#8 ++ 0#22 ++ 0b10#2) = .command (.find 2) := by decide
theorem test_decode_time : decode (0b00100010#8 ++ 0#24) = .command .time := by decide
theorem test_decode_data : decode (0b00100011#8 ++ 0#24) = .command .data := by decide
theorem test_decode_build : decode (0b00100100#8 ++ 0#24) = .command .build := by decide
theorem test_decode_sets :
    decode (0b00110000#8 ++ 0#8 ++ 0b0000000100000000#16) = .command (.sets 256#16) := by decide
theorem test_decode_setq :
    decode (0b00110001#8 ++ 0#8 ++ 0b0000000000011000#16) = .command (.setq 24#16) := by decide
theorem test_decode_rast : decode (0b00110010#8 ++ 0#24) = .command .rast := by decide
theorem test_decode_rdb : decode (0b01000000#8 ++ 0#18 ++ 0b101011#6) = .command (.rdb 43) := by decide
theorem test_decode_rdg :
    decode (0b01000001#8 ++ 0#11 ++ 0b00110#5 ++ 0#3 ++ 0b01000#5) = .command (.rdg 6 8) := by decide
theorem test_decode_rdr : decode (0b01000010#8 ++ 0#20 ++ 0b0111#4) = .command (.rdr 7) := by decide

/-- The priority examples of V51: the opcode is checked before the reserved bits, these before `k = 3`. -/
theorem test_decode_priority :
    decode 0x55000001#32 = .illegal .eOpcode ∧ decode 0x21000007#32 = .illegal .eRsvd := by decide

theorem test_decodeTableWord : decodeTableWord 32 0x41001818 = some (.rdg 24 24) := by decide

/-- No two rows of R93 take the same word: their matches differ where both masks are 1. -/
theorem test_rows_disjoint :
    Op.all.Pairwise fun o p => o.matchWord &&& (o.mask &&& p.mask) ≠ p.matchWord &&& (o.mask &&& p.mask) := by decide

theorem test_table_is_r93 :
    Op.all.map (fun o => (o, o.code.toNat, o.matchWord.toNat, o.mask.toNat)) = r93 := by decide

/-! ### States -/

/-- The reset state with a full buffer whose bytes are all 0. -/
def fullState : State := { State.reset with blen := 44#6 }

/-- The buffer of `PACK ""` (V1). -/
def emptyTextBuf : Buf :=
  (List.range 22).foldl (fun b i => (b.setByte (2 * i) 0xEC#8).setByte (2 * i + 1) 0x11#8) (Vector.replicate 44 0#8)

/-- After `PACK ""`. -/
def emptyText : State := { State.reset with buf := emptyTextBuf, blen := 44#6 }

/-- One field of the state the next step leaves with the word `w` presented. -/
def stepField {α : Type} (s : State) (w : Word) (f : State → α) : Option α :=
  match step (s.offer w) with
  | .next t => some (f t)
  | .fault _ => none
  | .refused _ => none

/-! ### One step per command -/

/-- V50. -/
theorem test_nop : stepField State.reset 0x00000000#32 State.rspOut = some [0x00000000#32] := by decide

/-- V50, R174: `RST` clears `ERR`. -/
theorem test_rst : stepField { fullState with err := true, lasterr := 3#4 } 0x01000000#32
    (fun t => (t.rspOut, t.blen, t.status)) = some ([0x00010000#32], 0#6, 0#16) := by decide

/-- R120's example. -/
theorem test_pclr : stepField fullState 0x10000000#32 (fun t => (t.rspOut, t.blen)) = some ([0x00100000#32], 0#6) := by
  decide

/-- R121's example, second byte. -/
theorem test_push : stepField { State.reset with blen := 1#6 } 0x11000069#32
    (fun t => (t.byte 0, t.byte 1, t.blen)) = some (0x00#8, 0x69#8, 2#6) := by decide

/-- V50: dropped on a full buffer, not refused. -/
theorem test_push_full : stepField fullState 0x110000FF#32 (fun t => (t.byte 43, t.blen, t.rspOut)) =
    some (0x00#8, 44#6, [0x00110000#32]) := by decide

/-- V9, the row of 41 bytes: the filler ends on an unpaired 0xEC. -/
theorem test_pad_41 : stepField { State.reset with blen := 41#6 } 0x12000000#32
    (fun t => (t.byte 40, t.byte 41, t.byte 42, t.byte 43, t.blen)) =
    some (0x00#8, 0xEC#8, 0x11#8, 0xEC#8, 44#6) := by decide

/-- V1: the empty text ends in 0xEC, 0x11. -/
theorem test_pad_0 : stepField State.reset 0x12000000#32 State.buf = some emptyTextBuf := by decide +kernel

/-- R130. -/
theorem test_gclr : stepField { State.reset with grid := State.reset.grid.setCell 24 24 .dark } 0x20000000#32
    (fun t => t.cell 24 24) = some .light := by decide

/-- V11, and the clipped column 25. -/
theorem test_find_1 : stepField State.reset 0x21000001#32
    (fun t => [(0, 18), (0, 24), (6, 24), (1, 19), (3, 21), (2, 20), (4, 22), (0, 17), (7, 17), (7, 24), (5, 23)].map
      fun rc => t.cell rc.1 rc.2) =
    some [.dark, .dark, .dark, .light, .dark, .dark, .dark, .light, .light, .light, .light] := by decide +kernel

/-- V12. -/
theorem test_find_3 : stepField State.reset 0x21000003#32 (fun t => (t.rspOut, t.status)) =
    some ([0x83210000#32], 0x0031#16) := by decide

/-- V13. -/
theorem test_time : stepField State.reset 0x22000000#32
    (fun t => (t.grid.rowWord 6, t.grid.rowWord 8, t.grid.rowWord 9, t.grid.rowWord 17)) =
    some (0x0015500, 0x0040000, 0, 0) := by decide +kernel

set_option maxRecDepth 20000 in
/-- V24: the scan with no structure. -/
theorem test_data : stepField emptyText 0x23000000#32 (fun t => ((List.range 25).map t.grid.rowWord, t.cur)) =
    some ([0x000EEEE, 0x0004444, 0x000EEEE, 0x0000000, 0x0000000, 0x000BBBB, 0x0000000, 0x0001111, 0x000BBBB,
      0x0002EEE, 0x0000444, 0x0002EEE, 0x0000000, 0x0000000, 0x0003BBB, 0x0001111, 0x0003BBB, 0x0002EEE,
      0x0000444, 0x0002EEE, 0x0000000, 0x0000000, 0x0003BBB, 0x0001111, 0x0003BBB], 352#9) := by decide +kernel

/-- V25. -/
theorem test_data_short : stepField State.reset 0x23000000#32 State.rspOut = some [0x84230000#32] := by decide

set_option maxRecDepth 20000 in
/-- V20. -/
theorem test_build : stepField emptyText 0x24000000#32 (fun t => ((List.range 25).map t.grid.rowWord, t.cur)) =
    some ([0x1FC337F, 0x1041161, 0x174BB5D, 0x17422DD, 0x17488DF, 0x104EED7, 0x1FD557F, 0x0004461, 0x004CCFF,
      0x000333E, 0x0041108, 0x000BB96, 0x0042200, 0x0008880, 0x004EED7, 0x0004461, 0x004CCFF, 0x000333E,
      0x1FC1108, 0x104BB96, 0x1742200, 0x1748880, 0x1742ED7, 0x1040461, 0x1FC0CFF], 352#9) := by decide +kernel

/-- V25. -/
theorem test_build_short : stepField { State.reset with blen := 43#6 } 0x24000000#32 State.rspOut =
    some [0x84240000#32] := by decide

/-- V49: after `SETS 257` the derived registers are still 8 and 28. -/
theorem test_sets : stepField State.reset 0x30000101#32 (fun t => (t.sizepx, t.scale, t.offset)) =
    some (257#16, 8, 28) := by decide

/-- V40, the row of a negative `inner`. -/
theorem test_setq : stepField { State.reset with sizepx := 10#16 } 0x31000018#32
    (fun t => (t.inner, t.scale, t.center, t.offset)) = some (-38, 0, -19, 5) := by decide

/-- R157 by hand: `SIZEPX = 27`, `QUIETPX = 1` give scale 1, offset 1, so cell (0, 2) is pixel (3, 1), at
address 30; there are 27 · 27 white writes and one black. -/
theorem test_rast : stepField
    { State.reset with sizepx := 27#16, quietpx := 1#16, grid := State.reset.grid.setCell 0 2 .dark } 0x32000000#32
    (fun t => ([29, 30, 31, 57, 728, 729].map t.pixel, t.cvOut.length)) =
    some ([some 0#1, some 1#1, some 0#1, some 0#1, some 0#1, none], 730) := by decide +kernel

/-- V46: an empty canvas. -/
theorem test_rast_empty : stepField { State.reset with sizepx := 0#16 } 0x32000000#32
    (fun t => (t.canvas, t.cvOut, t.rspOut)) = some ([], [], [0x00320000#32]) := by decide +kernel

/-- V50. -/
theorem test_rdb : stepField { emptyText with buf := emptyTextBuf.setByte 0 0x68#8 } 0x40000000#32 State.rspOut =
    some [0x00400068#32] := by decide +kernel

/-- V51: `RDB 44` is never below `BLEN`. -/
theorem test_rdb_44 : stepField fullState 0x4000002C#32 State.rspOut = some [0x83400000#32] := by decide

/-- R172's example. -/
theorem test_rdg : stepField { State.reset with grid := State.reset.grid.setCell 6 8 .dark } 0x41000608#32 State.rspOut =
    some [0x00410001#32] := by decide

/-- V51. -/
theorem test_rdg_25 : stepField State.reset 0x41000019#32 State.rspOut = some [0x83410000#32] := by decide

/-- R173's examples: `RDR 6` after reset; `RDR 1` after a refused `FIND 3`. -/
theorem test_rdr : stepField State.reset 0x42000006#32 State.rspOut = some [0x0042001C#32] ∧
    stepField { State.reset with err := true, lasterr := 3#4 } 0x42000001#32 State.rspOut = some [0x00420031#32] := by
  decide

/-- V51. -/
theorem test_rdr_8 : stepField State.reset 0x42000008#32 State.rspOut = some [0x83420000#32] := by decide

/-- V9a: U+00E9 U+20AC. -/
theorem test_utf8 : utf8Encode [0xE9, 0x20AC] = some [0xC3#8, 0xA9#8, 0xE2#8, 0x82#8, 0xAC#8] := by decide

/-! ### Witnesses: for each statement with hypotheses, a state and operands that meet them -/

theorem witness_DecodeOfEncodeGivesTheCommand : (Instr.rdg 31 31).WellFormed := by decide
theorem witness_EncodeOfDecodeGivesTheWord : decode 0x4100001F#32 = .command (.rdg 0 31) := by decide

theorem witness_DecodeFollowsTheOpcodeTable :
    (∀ row ∈ r93, (0xFF000000#32 : Word).toNat / 2 ^ 24 ≠ row.2.1) ∧
    ((.rdr, 0x42, 0x42000000, 0xFFFFFFF0) ∈ r93 ∧ (0x4200000F#32 : Word).toNat / 2 ^ 24 = 0x42) := by decide

theorem witness_StepRunsTheDecodedCommand :
    (State.reset.offer 0x12000000#32).inputs = .command 0x12000000#32 :: [] ∧ decode 0x12000000#32 = .command .pad := by
  decide

theorem witness_StepRefusesAnIllegalWord :
    (State.reset.offer 0x55000000#32).inputs = .command 0x55000000#32 :: [] ∧
    decode 0x55000000#32 = .illegal .eOpcode ∧ decode 0x12000001#32 = .illegal .eRsvd := by decide

theorem witness_WaitingBlockKeepsItsState : State.reset.inputs = [] := rfl

theorem witness_EveryCommandYieldsOneResponse :
    (State.reset.offer 0x42000000#32).inputs = .command 0x42000000#32 :: [] := rfl

theorem witness_RefusalChangesOnlyStatus :
    ∃ t, step (State.reset.offer 0x21000003#32) = .next t ∧ t.rspOut = [] ++ [0x83210000#32] ∧
      (0x83210000#32 : Word).extractLsb' 31 1 = 1#1 := ⟨_, rfl, by decide, by decide⟩

theorem witness_RefusalCausesAndCodes : (Instr.find 3).WellFormed := by decide

theorem witness_StatusIsSticky :
    ∃ t, exec .nop { State.reset with err := true } = .next t ∧ t.rspOut = [] ++ [0x00000000#32] ∧
      (0x00000000#32 : Word).extractLsb' 31 1 = 0#1 := ⟨_, rfl, by decide, by decide⟩

/-- `PCLR` outside the rows of `STATUS`, with a refusal before it that both fields keep. -/
theorem witness_OnlyTheNamedCommandsWrite :
    ∃ t, exec .pclr { State.reset with err := true, lasterr := 4#4 } = .next t ∧
      t.rspOut = State.reset.rspOut ++ [0x00100000#32] ∧ (0x00100000#32 : Word).extractLsb' 31 1 = 0#1 ∧
      Instr.pclr.op ∉ [Op.rst] := ⟨_, rfl, by decide⟩

theorem witness_PushAppendsOrDrops_stores : { State.reset with blen := 43#6 }.blen.toNat < 44 := by decide
theorem witness_PushAppendsOrDrops_drops : 44 ≤ fullState.blen.toNat := by decide
theorem witness_PadFillsAlternating : State.reset.blen.toNat ≤ 44 ∧ fullState.blen.toNat ≤ 44 := by decide
theorem witness_FindPlacesTheFinder : (0 < 3) ∧ (2 < 3) := by decide
theorem witness_StructureCommandsCommute : Instr.find 2 ∈ [Instr.find 0, .find 1, .find 2, .time] := by decide

/-- For `DataPlacesBitsInScanOrder`, `BuildPlacesEveryBitInItsCell`, `BuildEqualsItsSixCommands`. -/
theorem witness_full_buffer : fullState.blen = 44#6 := rfl

theorem witness_DataKeepsReservedCells : ∃ t, exec .data State.reset = .next t := ⟨_, rfl⟩
theorem witness_ShortBufferIsRefused : State.reset.blen ≠ 44#6 ∧ { State.reset with blen := 43#6 }.blen ≠ 44#6 := by
  decide

theorem witness_BuildKeepsTheFixedPoints : ∃ t, fullState.blen = 44#6 ∧ exec .build fullState = .next t := by
  refine ⟨(fullState.withScan (scan fullState.buf Grid.structural)).respond Op.build.code 0#16, rfl, ?_⟩
  show execBuild fullState = _
  unfold execBuild
  rw [if_pos (by decide)]

theorem witness_ExactlyThirtyStructuralCellsAreOverwritten :
    isStructural 7 24 = true ∧ structural 7 24 = .light ∧ isStructural 6 17 = true ∧ structural 6 17 = .light := by decide

theorem witness_RasterGeometryFacts :
    0 ≤ State.reset.inner ∧ { State.reset with sizepx := 10#16 }.inner < 0 ∧
    (0 ≤ { State.reset with sizepx := 72#16 }.inner ∧ { State.reset with sizepx := 72#16 }.inner < 25) := by decide

theorem witness_RastCanvasIsWhatItsWritesMake : State.reset.canvas.wf := by decide
theorem witness_RastWritesStayOnTheCanvas : ∃ t, exec .rast State.reset = .next t := ⟨_, rfl⟩

theorem witness_RastKeepsTheQuietMargin :
    stepField { State.reset with sizepx := 25#16, quietpx := 0#16, grid := State.reset.grid.setCell 24 24 .dark } 0x32000000#32
      (fun t => t.pixel (24 * 25 + 24)) = some (some 1#1) ∧ 24 < (25#16 : Half).toNat := by decide +kernel

theorem witness_RastDegenerateCaseIsAllWhite :
    (({ State.reset with sizepx := 72#16 }.sizepx.toNat : Int) - 2 * State.reset.quietpx.toNat < 25) := by decide

theorem witness_RdbReadsAValidByte : 43 < fullState.blen.toNat ∧ fullState.blen.toNat ≤ 44 ∧ State.reset.blen.toNat ≤ 0 := by
  decide

theorem witness_RdgReadsACell : (24 ≤ 24 ∧ 24 ≤ 24) ∧ (24 < 25 ∨ 24 < 0) := by decide
theorem witness_RdrReadsEveryRegister : (7 < 8) ∧ (8 ≤ 8) := by decide

theorem witness_ReadBackIsPure :
    ∃ t, (Instr.rdr 0).op ∈ [Op.rdb, .rdg, .rdr] ∧ exec (.rdr 0) State.reset = .next t ∧
      t.rspOut = [] ++ [0x0042192C#32] ∧ (0x0042192C#32 : Word).extractLsb' 31 1 = 0#1 :=
  ⟨_, by decide, rfl, by decide, by decide⟩

theorem witness_ResetPulseRestoresTheResetValues :
    { fullState with inputs := [.resetPulse] }.inputs = .resetPulse :: [] := rfl

theorem witness_ResetDuringACommandAbandonsIt :
    { fullState with inputs := [.commandCut 0x32000000#32] }.inputs = .commandCut 0x32000000#32 :: [] := rfl

theorem witness_StepKeepsTheInvariant : State.reset.Inv ∧ step State.reset = .next State.reset := ⟨by decide, rfl⟩

theorem witness_StepKeepsTheCanvasThePortHistory :
    State.reset.CanvasIsPortHistory ∧ step State.reset = .next State.reset := ⟨rfl, rfl⟩

/-- A `RAST` of one pixel changes what that pixel reads as. -/
theorem witness_OnlyRastChangesTheCanvas :
    stepField { State.reset with sizepx := 1#16 } 0x32000000#32 (fun t => t.pixel 0) ≠ some (State.reset.pixel 0) := by
  decide +kernel

/-- Whether an outcome is a next state. -/
def isNext (o : Host.Outcome State Fault Refusal) : Bool :=
  match o with
  | .next _ => true
  | .fault _ => false
  | .refused _ => false

theorem exists_of_isNext {o : Host.Outcome State Fault Refusal} (h : isNext o = true) : ∃ t, o = .next t := by
  cases o with
  | next t => exact ⟨t, rfl⟩
  | fault f => cases f
  | refused r => cases h

theorem witness_CanonicalSequenceForgetsThePast :
    ∃ t, runCommands ((Pseudo.encode []).expand ++ (Pseudo.render 0#16 0#16).expand) State.reset = .next t :=
  exists_of_isNext (by decide +kernel)

end Sys2Proof.Tests
end

section
/-! PROOFS. What one command can do: the states it can be accepted with, the causes it is refused for. -/

namespace Sys2Proof.Machine

open Host (Outcome)

/-- `s.Accepts i u data`: the command `i` is accepted in `s`, leaves `u` but for its response, and answers
`data`. One constructor per way of being accepted; what a scan leaves is named, so that it stays a variable. -/
inductive State.Accepts (s : State) : Instr → State → Half → Prop where
  | nop : s.Accepts .nop s 0#16
  | rst : s.Accepts .rst s.resetBlock 0#16
  | pclr : s.Accepts .pclr { s with blen := 0#6 } 0#16
  | pushStored (v : Byte) (room : s.blen.toNat < 44) : s.Accepts (.push v) (s.append v) 0#16
  | pushDropped (v : Byte) (noRoom : 44 ≤ s.blen.toNat) : s.Accepts (.push v) s 0#16
  | pad : s.Accepts .pad (s.padLoop 44) 0#16
  | gclr : s.Accepts .gclr { s with grid := Grid.allLight } 0#16
  | find (k : Nat) (anchor : Nat × Nat) (sel : findAnchor k = some anchor) :
      s.Accepts (.find k) { s with grid := s.grid.placeFinder anchor } 0#16
  | time : s.Accepts .time { s with grid := s.grid.placeTiming } 0#16
  | data (left : Grid × Nat) (full : s.full = true) (scanned : scan s.buf s.grid = left) :
      s.Accepts .data (s.withScan left) 0#16
  | build (left : Grid × Nat) (full : s.full = true) (scanned : scan s.buf Grid.structural = left) :
      s.Accepts .build (s.withScan left) 0#16
  | sets (v : Half) : s.Accepts (.sets v) { s with sizepx := v } 0#16
  | setq (v : Half) : s.Accepts (.setq v) { s with quietpx := v } 0#16
  | rast : s.Accepts .rast { s with canvas := s.rastCanvas, cvOut := s.cvOut ++ s.rastWrites } 0#16
  | rdb (idx : Nat) (valid : s.validIndex idx = true) : s.Accepts (.rdb idx) s ((s.buf.byte idx).setWidth 16)
  | rdg (row col : Nat) (inRange : cellInRange row col = true) :
      s.Accepts (.rdg row col) s (moduleData (s.grid.cell row col))
  | rdr (reg : Nat) (r : RegName) (assigned : regOfNumber reg = some r) : s.Accepts (.rdr reg) s (s.readReg r)

/-- `s.Refuses i c`: the command `i` is refused in `s` with the code `c` (R182). -/
inductive State.Refuses (s : State) : Instr → RefusalCode → Prop where
  | find (k : Nat) (sel : findAnchor k = none) : s.Refuses (.find k) .eRange
  | data (short : ¬ s.full = true) : s.Refuses .data .eShort
  | build (short : ¬ s.full = true) : s.Refuses .build .eShort
  | rdb (idx : Nat) (invalid : ¬ s.validIndex idx = true) : s.Refuses (.rdb idx) .eRange
  | rdg (row col : Nat) (outside : ¬ cellInRange row col = true) : s.Refuses (.rdg row col) .eRange
  | rdr (reg : Nat) (reserved : regOfNumber reg = none) : s.Refuses (.rdr reg) .eRange

/-- What a command answers: it is accepted or refused, with the opcode byte as `echo` either way. -/
theorem exec_accepts_or_refuses (i : Instr) (s : State) :
    (∃ u data, s.Accepts i u data ∧ exec i s = .next (u.respond i.opcode data)) ∨
    (∃ c, s.Refuses i c ∧ exec i s = .next (s.refuse i.opcode c)) := by
  cases i with
  | nop => exact .inl ⟨_, _, .nop, rfl⟩
  | rst => exact .inl ⟨_, _, .rst, rfl⟩
  | pclr => exact .inl ⟨_, _, .pclr, rfl⟩
  | push v =>
    by_cases room : s.blen.toNat < 44
    · refine .inl ⟨_, _, .pushStored v room, ?_⟩
      show execPush v s = _
      rw [execPush, if_pos room]; rfl
    · refine .inl ⟨_, _, .pushDropped v (Nat.not_lt.mp room), ?_⟩
      show execPush v s = _
      rw [execPush, if_neg room]; rfl
  | pad => exact .inl ⟨_, _, .pad, rfl⟩
  | gclr => exact .inl ⟨_, _, .gclr, rfl⟩
  | find k =>
    cases sel : findAnchor k with
    | some anchor =>
      refine .inl ⟨_, _, .find k anchor sel, ?_⟩
      show execFind k s = _
      rw [execFind, sel]; rfl
    | none =>
      refine .inr ⟨_, .find k sel, ?_⟩
      show execFind k s = _
      rw [execFind, sel]; rfl
  | time => exact .inl ⟨_, _, .time, rfl⟩
  | data =>
    by_cases full : s.full = true
    · obtain ⟨left, scanned, h⟩ := exec_data_full full
      exact .inl ⟨_, _, .data left full scanned, h⟩
    · exact .inr ⟨_, .data full, exec_data_short full⟩
  | build =>
    by_cases full : s.full = true
    · obtain ⟨left, scanned, h⟩ := exec_build_full full
      exact .inl ⟨_, _, .build left full scanned, h⟩
    · exact .inr ⟨_, .build full, exec_build_short full⟩
  | sets v => exact .inl ⟨_, _, .sets v, rfl⟩
  | setq v => exact .inl ⟨_, _, .setq v, rfl⟩
  | rast => exact .inl ⟨_, _, .rast, rfl⟩
  | rdb idx =>
    by_cases valid : s.validIndex idx = true
    · exact .inl ⟨_, _, .rdb idx valid, if_pos valid⟩
    · exact .inr ⟨_, .rdb idx valid, if_neg valid⟩
  | rdg row col =>
    by_cases inRange : cellInRange row col = true
    · exact .inl ⟨_, _, .rdg row col inRange, if_pos inRange⟩
    · exact .inr ⟨_, .rdg row col inRange, if_neg inRange⟩
  | rdr reg =>
    cases assigned : regOfNumber reg with
    | some r =>
      refine .inl ⟨_, _, .rdr reg r assigned, ?_⟩
      show execRdr reg s = _
      rw [execRdr, assigned]; rfl
    | none =>
      refine .inr ⟨_, .rdr reg assigned, ?_⟩
      show execRdr reg s = _
      rw [execRdr, assigned]; rfl

/-- All that a command can do. -/
theorem exec_cases {i : Instr} {s t : State} (h : exec i s = .next t) :
    (∃ u data, s.Accepts i u data ∧ t = u.respond i.opcode data) ∨
    (∃ c, s.Refuses i c ∧ t = s.refuse i.opcode c) := by
  rcases exec_accepts_or_refuses i s with ⟨u, data, ha, e⟩ | ⟨c, hr, e⟩
  · exact .inl ⟨u, data, ha, Outcome.next.inj (h.symm.trans e)⟩
  · exact .inr ⟨c, hr, Outcome.next.inj (h.symm.trans e)⟩

/-! ### The loop of `PAD` -/

/-- `PAD` writes `BUF` and `BLEN` only, and keeps `BLEN ≤ 44` (R123). -/
theorem State.padLoop_frame (fuel : Nat) (s : State) :
    ∃ b n, s.padLoop fuel = { s with buf := b, blen := n } ∧ (s.blen.toNat ≤ 44 → n.toNat ≤ 44) := by
  induction fuel generalizing s with
  | zero => exact ⟨s.buf, s.blen, rfl, id⟩
  | succ fuel ih =>
    rw [State.padLoop]
    split
    next room =>
      dsimp only
      split
      next filled => exact ⟨_, _, rfl, fun _ => filled.le⟩
      next notFilled =>
        obtain ⟨b, n, e, hn⟩ := ih ((s.append Config.fill0).append Config.fill1)
        refine ⟨b, n, e, fun _ => hn ?_⟩
        simp only [State.append_blen, Config.capacity] at room notFilled ⊢
        bv_omega
    next => exact ⟨s.buf, s.blen, rfl, id⟩

end Sys2Proof.Machine
end

section
/-! PROOFS. What one step can do, case by case, and what it does in each case. -/

namespace Sys2Proof.Machine

open Host (Outcome)

/-- A presented command is executed on the state with its word taken (R23, R70). -/
theorem step_command {s : State} {w : Word} {rest : List HostInput} {i : Instr}
    (hin : s.inputs = .command w :: rest) (hdec : decode w = .command i) : step s = exec i (s.accept rest) := by
  simp only [step, State.fetch, hin, hdec]

/-- A presented illegal word is refused with its code (R94, R181). -/
theorem step_illegal {s : State} {w : Word} {rest : List HostInput} {c : RefusalCode}
    (hin : s.inputs = .command w :: rest) (hdec : decode w = .illegal c) :
    step s = .next ((s.accept rest).refuse (opByte w) c) := by
  simp only [step, State.fetch, hin, hdec]

/-- A command cut short by reset (R212). -/
theorem step_commandCut {s : State} {w : Word} {rest : List HostInput}
    (hin : s.inputs = .commandCut w :: rest) : step s = .next ((s.accept rest).cutByReset w) := by
  simp only [step, State.fetch, hin]

/-- A pulse of the reset pin between commands (R210). -/
theorem step_resetPulse {s : State} {rest : List HostInput}
    (hin : s.inputs = .resetPulse :: rest) : step s = .next (s.hardReset rest) := by
  simp only [step, State.fetch, hin]

/-- With nothing presented the block waits (R195). -/
theorem step_idle {s : State} (hin : s.inputs = []) : step s = .next s := by
  simp only [step, State.fetch, hin]

/-- The ways in which one step leads from `s` to `t`. -/
inductive StepCase (s t : State) : Prop where
  | idle (hin : s.inputs = []) (ht : t = s)
  | command (w : Word) (rest : List HostInput) (i : Instr) (hin : s.inputs = .command w :: rest)
      (hdec : decode w = .command i) (ht : exec i (s.accept rest) = .next t)
  | illegal (w : Word) (rest : List HostInput) (c : RefusalCode) (hin : s.inputs = .command w :: rest)
      (hdec : decode w = .illegal c) (ht : t = (s.accept rest).refuse (opByte w) c)
  | commandCut (w : Word) (rest : List HostInput) (hin : s.inputs = .commandCut w :: rest)
      (ht : t = (s.accept rest).cutByReset w)
  | resetPulse (rest : List HostInput) (hin : s.inputs = .resetPulse :: rest) (ht : t = s.hardReset rest)

/-- All that a step can do. -/
theorem step_cases {s t : State} (h : step s = .next t) : StepCase s t := by
  cases hin : s.inputs with
  | nil => exact .idle hin (Outcome.next.inj (h.symm.trans (step_idle hin)))
  | cons input rest =>
    cases input with
    | command w =>
      cases hdec : decode w with
      | command i => exact .command w rest i hin hdec ((step_command hin hdec).symm.trans h)
      | illegal c => exact .illegal w rest c hin hdec (Outcome.next.inj (h.symm.trans (step_illegal hin hdec)))
    | commandCut w => exact .commandCut w rest hin (Outcome.next.inj (h.symm.trans (step_commandCut hin)))
    | resetPulse => exact .resetPulse rest hin (Outcome.next.inj (h.symm.trans (step_resetPulse hin)))

/-! ### The opcode of a decoded word -/

/-- The command an opcode reads from a word has that opcode. -/
theorem op_instr (o : Op) (w : Word) : (o.instr w).op = o := by
  cases o <;> rfl

/-- The `echo` of a decoded command is the top byte of its word (R90, R97). -/
theorem opcode_of_decode {w : Word} {i : Instr} (h : decode w = .command i) : i.opcode = opByte w := by
  unfold decode at h
  split at h
  next => cases h
  next o hop =>
    split at h
    next =>
      cases h
      rw [Instr.opcode, op_instr]
      have hcode : (o.code == opByte w) = true := List.find?_some (p := fun (o : Op) => o.code == opByte w) (l := Op.all) hop
      exact eq_of_beq hcode
    next => cases h

/-! ### Refusal codes -/

/-- The codes of R182 are 1 to 4. -/
theorem refusalBits_range (c : RefusalCode) : 1 ≤ (refusalBits c).toNat ∧ (refusalBits c).toNat ≤ 4 := by
  cases c <;> decide

theorem refusalBits_ne_zero (c : RefusalCode) : refusalBits c ≠ 0#4 := by
  cases c <;> decide

end Sys2Proof.Machine
end

section
/-! PROOFS. The invariant of every state. -/

namespace Sys2Proof.Machine

/-- No visit of a list of cells takes the cursor past 352. -/
theorem foldl_scanVisit_cursor_le (b : Buf) (cells : List (Nat × Nat)) {st : Grid × Nat} (h : st.2 ≤ 352) :
    (cells.foldl (scanVisit b) st).2 ≤ 352 := by
  induction cells generalizing st with
  | nil => exact h
  | cons rc cells ih => exact ih (scanVisit_cursor_le b rc h)

/-- A scan places at most the 352 source bits (R38). -/
theorem scan_cursor_le {b : Buf} {g : Grid} {left : Grid × Nat} (h : scan b g = left) : left.2 ≤ 352 := by
  subst h
  unfold scan
  exact foldl_scanVisit_cursor_le b scanOrder (Nat.zero_le _)

namespace State

variable {s u : State}

/-- The cursor a scan stores is at most 352 (R38). -/
theorem withScan_cur_le {left : Grid × Nat} (h : left.2 ≤ 352) : (s.withScan left).cur.toNat ≤ 352 := by
  rw [withScan_cur, BitVec.toNat_ofNat]
  exact (Nat.mod_le _ _).trans h

/-- What a scan stores keeps the invariant. -/
theorem Inv.withScan (hs : s.Inv) {left : Grid × Nat} (h : left.2 ≤ 352) : (s.withScan left).Inv := by
  obtain ⟨hblen, -, hlasterr, herr, hcanvas⟩ := hs
  exact ⟨hblen, withScan_cur_le h, hlasterr, herr, hcanvas⟩

/-- A refusal keeps the invariant: `ERR` rises with a code other than 0. -/
theorem Inv.refuse (hs : s.Inv) (echo : Byte) (c : RefusalCode) : (s.refuse echo c).Inv := by
  obtain ⟨hblen, hcur, -, -, hcanvas⟩ := hs
  exact ⟨hblen, hcur, (refusalBits_range c).2, by simp [refusalBits_ne_zero c], hcanvas⟩

/-- The reset values meet the invariant, over any canvas of the one form. -/
theorem inv_resetBlock (hcanvas : s.canvas.wf) : s.resetBlock.Inv :=
  ⟨Nat.zero_le _, Nat.zero_le _, Nat.zero_le _, by simp, hcanvas⟩

/-- What an accepted command leaves meets the invariant. -/
theorem Accepts.inv {i : Instr} {data : Half} (h : s.Accepts i u data) (hs : s.Inv) : u.Inv := by
  have ⟨hblen, hcur, hlasterr, herr, hcanvas⟩ := hs
  cases h with
  | rst => exact inv_resetBlock hcanvas
  | pclr => exact ⟨Nat.zero_le _, hcur, hlasterr, herr, hcanvas⟩
  | pushStored v room =>
    refine ⟨?_, hcur, hlasterr, herr, hcanvas⟩
    rw [append_blen]
    bv_omega
  | pad =>
    obtain ⟨b, n, e, hn⟩ := padLoop_frame 44 s
    rw [e]
    exact ⟨hn hblen, hcur, hlasterr, herr, hcanvas⟩
  | data left _ scanned => exact hs.withScan (scan_cursor_le scanned)
  | build left _ scanned => exact hs.withScan (scan_cursor_le scanned)
  | rast => exact ⟨hblen, hcur, hlasterr, herr, Memory.wf_paint hcanvas _ _⟩
  | nop | pushDropped | gclr | find | time | sets | setq | rdb | rdg | rdr => exact hs

/-- Every command keeps the invariant. -/
theorem Inv.exec {i : Instr} {t : State} (hs : s.Inv) (h : exec i s = .next t) : t.Inv := by
  rcases exec_cases h with ⟨u, data, ha, rfl⟩ | ⟨c, -, rfl⟩
  · exact ha.inv hs
  · exact hs.refuse _ _

/-- Every step keeps the invariant. -/
theorem Inv.step {t : State} (hs : s.Inv) (h : step s = .next t) : t.Inv := by
  have ⟨_, _, _, _, hcanvas⟩ := hs
  cases step_cases h with
  | idle _ ht => exact ht ▸ hs
  | command w rest i _ _ ht => exact Inv.exec (s := s.accept rest) hs ht
  | illegal w rest c _ _ ht => exact ht ▸ Inv.refuse (s := s.accept rest) hs _ _
  | commandCut w rest _ ht => exact ht ▸ inv_resetBlock (Memory.wf_applyWrites _ hcanvas)
  | resetPulse rest _ ht => exact ht ▸ inv_resetBlock hcanvas

end State

/-- Settles O49, by cases on what a step can do. -/
theorem stepKeepsTheInvariant : Obligations.StepKeepsTheInvariant :=
  fun _ _ hs h => hs.step h

/-- Settles O48. -/
theorem invariantHoldsAtReset : Obligations.InvariantHoldsAtReset :=
  ⟨⟨Nat.zero_le _, Nat.zero_le _, Nat.zero_le _, by decide, Memory.wf_nil⟩, rfl⟩

end Sys2Proof.Machine
end

section
/-! PROOFS. Who writes what, responses, and the status bits. -/

namespace Sys2Proof.Machine

/-! ### Frames -/

/-- `u` differs from `s` only where a command of opcode `o` may write when it is accepted, before its response
(R20). -/
structure State.Frame (o : Op) (s u : State) : Prop where
  buf : o ∉ [Op.push, .pad, .rst] → u.buf = s.buf
  blen : o ∉ [Op.pclr, .push, .pad, .rst] → u.blen = s.blen
  grid : o ∉ [Op.gclr, .find, .time, .data, .build, .rst] → u.grid = s.grid
  sizepx : o ∉ [Op.sets, .rst] → u.sizepx = s.sizepx
  quietpx : o ∉ [Op.setq, .rst] → u.quietpx = s.quietpx
  cur : o ∉ [Op.data, .build, .rst] → u.cur = s.cur
  err : o ≠ .rst → u.err = s.err
  lasterr : o ≠ .rst → u.lasterr = s.lasterr
  canvas : o ≠ .rast → u.canvas = s.canvas
  cvOut : o ≠ .rast → u.cvOut = s.cvOut
  inputs : u.inputs = s.inputs
  index : u.index = s.index
  rspOut : u.rspOut = s.rspOut

/-- An accepted command writes only what its row of R20 names. -/
theorem State.Accepts.frame {s u : State} {i : Instr} {data : Half} (h : s.Accepts i u data) :
    State.Frame i.op s u := by
  cases h with
  | pad =>
    obtain ⟨b, n, e, -⟩ := State.padLoop_frame 44 s
    rw [e]
    constructor <;> simp [Instr.op]
  | _ => constructor <;> simp [Instr.op]

/-- Only `RST` has the opcode of `RST`. -/
theorem op_eq_rst {i : Instr} (h : i.op = .rst) : i = .rst := by
  cases i with
  | rst => rfl
  | _ => cases h

/-! ### Responses -/

/-- An accepted command's response has `err = 0`. -/
theorem successWord_err (echo : Byte) (data : Half) : (successWord echo data).extractLsb' 31 1 = 0#1 :=
  responseWord_err ..

/-- A refused command's response has `err = 1`. -/
theorem refusalWord_err (c : RefusalCode) (echo : Byte) : (refusalWord c echo).extractLsb' 31 1 = 1#1 :=
  responseWord_err ..

/-- What R97 says of a response word `p` to a command whose opcode byte is `echo`. -/
structure ResponseForm (echo : Byte) (p : Word) : Prop where
  echo : p.extractLsb' 16 8 = echo
  zero : p.extractLsb' 28 3 = 0#3
  accepted : p.extractLsb' 31 1 = 0#1 → p.extractLsb' 24 4 = 0#4
  refused : p.extractLsb' 31 1 = 1#1 →
    1 ≤ (p.extractLsb' 24 4).toNat ∧ (p.extractLsb' 24 4).toNat ≤ 4 ∧ p.extractLsb' 0 16 = 0#16

/-- The response of an accepted command has R97's form. -/
theorem successWord_form (echo : Byte) (data : Half) : ResponseForm echo (successWord echo data) where
  echo := responseWord_echo ..
  zero := responseWord_zero ..
  accepted _ := responseWord_code ..
  refused h := absurd ((successWord_err echo data).symm.trans h) (by decide)

/-- The response of a refused command has R97's form. -/
theorem refusalWord_form (c : RefusalCode) (echo : Byte) : ResponseForm echo (refusalWord c echo) where
  echo := responseWord_echo ..
  zero := responseWord_zero ..
  accepted h := absurd ((refusalWord_err c echo).symm.trans h) (by decide)
  refused _ := by
    rw [refusalWord, responseWord_code, responseWord_data]
    exact ⟨(refusalBits_range c).1, (refusalBits_range c).2, rfl⟩

/-- A command answers one response of R97's form, and neither takes from the channel nor moves the index. -/
theorem exec_responds (i : Instr) (s : State) :
    ∃ t p, exec i s = .next t ∧ t.rspOut = s.rspOut ++ [p] ∧ t.inputs = s.inputs ∧ t.index = s.index ∧
      ResponseForm i.opcode p := by
  rcases exec_accepts_or_refuses i s with ⟨u, data, ha, e⟩ | ⟨c, -, e⟩
  · exact ⟨_, _, e, congrArg (· ++ _) ha.frame.rspOut, ha.frame.inputs, ha.frame.index, successWord_form ..⟩
  · exact ⟨_, _, e, rfl, rfl, rfl, refusalWord_form ..⟩

/-- So does the step that takes a command word, legal or not, but for the word it takes. -/
theorem step_responds {s : State} {w : Word} {rest : List HostInput} (hin : s.inputs = .command w :: rest) :
    ∃ t p, step s = .next t ∧ t.rspOut = s.rspOut ++ [p] ∧ t.inputs = rest ∧ t.index = s.index + 1 ∧
      ResponseForm (opByte w) p := by
  cases hdec : decode w with
  | command i =>
    obtain ⟨t, p, e, hrsp, hinputs, hindex, hform⟩ := exec_responds i (s.accept rest)
    rw [opcode_of_decode hdec] at hform
    exact ⟨t, p, (step_command hin hdec).trans e, hrsp, hinputs, hindex, hform⟩
  | illegal c => exact ⟨_, _, step_illegal hin hdec, rfl, rfl, rfl, refusalWord_form ..⟩

/-- Settles O9. -/
theorem everyCommandYieldsOneResponse : Obligations.EveryCommandYieldsOneResponse := by
  intro s w rest hin
  obtain ⟨t, p, e, hrsp, hinputs, hindex, hform⟩ := step_responds hin
  exact ⟨t, p, e, hrsp, hinputs, hindex, hform.echo, hform.zero, hform.accepted, hform.refused⟩

/-! ### Accepted commands and the status bits -/

/-- A command whose response has `err = 0` was accepted. -/
theorem accepted_of_response {i : Instr} {s t : State} {p : Word} (h : exec i s = .next t)
    (hrsp : t.rspOut = s.rspOut ++ [p]) (hp : p.extractLsb' 31 1 = 0#1) :
    ∃ u data, s.Accepts i u data ∧ t = u.respond i.opcode data := by
  refine (exec_cases h).resolve_right ?_
  rintro ⟨c, -, rfl⟩
  have hword : refusalWord c i.opcode = p := by simpa using hrsp
  have herr := refusalWord_err c i.opcode
  rw [hword, hp] at herr
  exact absurd herr (by decide)

/-- An accepted command other than `RST` keeps `ERR` and `LASTERR` (R36). -/
theorem status_of_accepted_response {i : Instr} {s t : State} {p : Word} (hi : i.op ≠ .rst)
    (h : exec i s = .next t) (hrsp : t.rspOut = s.rspOut ++ [p]) (hp : p.extractLsb' 31 1 = 0#1) :
    t.err = s.err ∧ t.lasterr = s.lasterr := by
  obtain ⟨u, data, ha, rfl⟩ := accepted_of_response h hrsp hp
  exact ⟨ha.frame.err hi, ha.frame.lasterr hi⟩

/-- No command but `RST` clears `ERR` (R188). -/
theorem err_stays {i : Instr} {s t : State} (hi : i.op ≠ .rst) (h : exec i s = .next t) (herr : s.err = true) :
    t.err = true := by
  rcases exec_cases h with ⟨u, data, ha, rfl⟩ | ⟨c, -, rfl⟩
  · exact (ha.frame.err hi).trans herr
  · rfl

/-- Settles O12. -/
theorem statusIsSticky : Obligations.StatusIsSticky := by
  intro i s t p hi h hrsp
  have hop : i.op ≠ .rst := fun e => hi (op_eq_rst e)
  exact ⟨status_of_accepted_response hop h hrsp, err_stays hop h⟩

/-- A command, accepted or refused, writes only what its row of R20 names, `STATUS` and the response aside. -/
theorem exec_frame {i : Instr} {s t : State} (h : exec i s = .next t) :
    State.Frame i.op s { t with err := s.err, lasterr := s.lasterr, rspOut := s.rspOut } := by
  rcases exec_cases h with ⟨u, data, ha, rfl⟩ | ⟨c, -, rfl⟩
  · exact { ha.frame with err := fun _ => rfl, lasterr := fun _ => rfl, rspOut := rfl }
  · constructor <;> intros <;> rfl

/-- Settles O13. -/
theorem onlyTheNamedCommandsWrite : Obligations.OnlyTheNamedCommandsWrite := by
  intro i s t h
  have hframe := exec_frame h
  have hstatus (hop : i.op ∉ [Op.rst]) (p : Word) := status_of_accepted_response (p := p) (List.ne_of_not_mem_cons hop) h
  exact ⟨hframe.buf, hframe.blen, hframe.grid, hframe.sizepx, hframe.quietpx, hframe.cur,
    fun hop p hrsp hp => (hstatus hop p hrsp hp).1, fun hop p hrsp hp => (hstatus hop p hrsp hp).2,
    fun hop => ⟨fun a => congrArg (Memory.read · a) (hframe.canvas hop), hframe.cvOut hop⟩,
    hframe.inputs, hframe.index⟩

/-! ### The step and reset -/

/-- Settles O5. -/
theorem stepRunsTheDecodedCommand : Obligations.StepRunsTheDecodedCommand :=
  fun _ _ _ _ hin hdec => step_command hin hdec

/-- Settles O40. -/
theorem rstRestoresTheResetValues : Obligations.RstRestoresTheResetValues := by
  intro s
  refine ⟨s.resetBlock.respond Op.rst.code 0#16, rfl, fun r c _ _ => Grid.cell_allLight r c, ?_⟩
  have hword : successWord Op.rst.code 0#16 = 0x00010000#32 := by decide
  simp only [State.respond, State.resetBlock, hword]

/-- Settles O46. -/
theorem resetPulseRestoresTheResetValues : Obligations.ResetPulseRestoresTheResetValues :=
  fun s rest hin => ⟨s.hardReset rest, step_resetPulse hin, fun r c _ _ => Grid.cell_allLight r c, rfl⟩

end Sys2Proof.Machine
end

section
/-! PROOFS. The rasterizer arithmetic, in ℤ as in R32 and R33, and as the natural numbers the registers show. -/

namespace Sys2Proof.Machine

open Sys2Proof.Spec

namespace State

/-! ### R33 -/

/-- R33, room for the margins: the rest of the division by 25 is what is centred. -/
theorem geometry_of_inner_nonneg {s : State} (h : 0 ≤ s.inner) :
    s.scale = s.inner / 25 ∧ s.inner - s.gridpx = s.inner % 25 ∧ s.center = s.inner % 25 / 2 := by
  have hscale : s.scale = s.inner / 25 := max_eq_right (by omega)
  have hrest : s.inner - s.gridpx = s.inner % 25 := by rw [gridpx, hscale]; omega
  exact ⟨hscale, hrest, by rw [center, hrest]⟩

/-- R33, `inner` below 25, negative included: no module is drawn, and the empty grid sits at half the side. -/
theorem geometry_of_inner_lt {s : State} (h : s.inner < 25) :
    s.scale = 0 ∧ s.gridpx = 0 ∧ s.center = s.inner / 2 ∧ s.offset = (s.sizepx.toNat : Int) / 2 := by
  have hscale : s.scale = 0 := max_eq_left (by omega)
  have hgridpx : s.gridpx = 0 := by rw [gridpx, hscale]; rfl
  have hcenter : s.center = s.inner / 2 := by rw [center, hgridpx]; omega
  refine ⟨hscale, hgridpx, hcenter, ?_⟩
  rw [offset, hcenter, inner]; omega

/-- R33: the right edge of the drawn grid leaves the margin, plus what centring leaves on that side. -/
theorem offset_add_gridpx {s : State} (h : 0 ≤ s.inner) :
    s.offset + s.gridpx = s.sizepx.toNat - s.quietpx.toNat - (s.inner % 25 + 1) / 2 := by
  obtain ⟨-, hrest, hcenter⟩ := geometry_of_inner_nonneg h
  rw [offset, hcenter]
  rw [inner] at *
  omega

theorem scale_nonneg (s : State) : 0 ≤ s.scale := le_max_left ..

theorem scale_le (s : State) : s.scale ≤ 2621 := by
  have hsize := s.sizepx.isLt
  rw [scale, inner]; omega

theorem offset_bounds (s : State) : 0 ≤ s.offset ∧ s.offset ≤ 32779 := by
  have hsize := s.sizepx.isLt
  rcases Int.lt_or_le s.inner 0 with hneg | hnonneg
  · obtain ⟨-, -, -, hoffset⟩ := geometry_of_inner_lt (hneg.trans (by decide))
    omega
  · obtain ⟨-, -, hcenter⟩ := geometry_of_inner_nonneg hnonneg
    rw [offset, hcenter]
    rw [inner] at hnonneg ⊢
    omega

end State

/-- Settles O33. -/
theorem rasterGeometryFacts : Obligations.RasterGeometryFacts := by
  intro s
  refine ⟨fun h => ?_, fun h => ?_, fun h0 h25 => ?_,
    s.offset_bounds.1, s.offset_bounds.2, s.scale_nonneg, s.scale_le⟩
  · obtain ⟨hscale, hrest, hcenter⟩ := State.geometry_of_inner_nonneg h
    have hright := State.offset_add_gridpx h
    refine ⟨hscale, hrest, by omega, by omega, hcenter, by omega, by omega, ?_, hright, by omega⟩
    rw [State.offset]; omega
  · obtain ⟨hscale, hgridpx, hcenter, hoffset⟩ := State.geometry_of_inner_lt (h.trans (by decide))
    refine ⟨hscale, hgridpx, hcenter, ?_, hoffset⟩
    rw [State.inner]; omega
  · obtain ⟨hscale, hgridpx, hcenter, hoffset⟩ := State.geometry_of_inner_lt h25
    exact ⟨hscale, hgridpx, by rw [State.offset, hcenter], hoffset⟩

/-- Settles O45. -/
theorem resetValues : Obligations.ResetValues :=
  ⟨rfl, fun r c _ _ => Grid.cell_allLight r c, rfl, rfl, rfl, rfl, rfl, rfl, rfl, rfl, by decide, by decide⟩

/-! ### The registers SCALE and OFFSET -/

namespace State

/-- The `SCALE` R32 gives for `SIZEPX` and `QUIETPX`. -/
abbrev scaleNat (s : State) : Nat := r32Scale s.sizepx.toNat s.quietpx.toNat

/-- The `OFFSET` R32 gives for `SIZEPX` and `QUIETPX`. -/
abbrev offsetNat (s : State) : Nat := r32Offset s.sizepx.toNat s.quietpx.toNat

theorem scale_eq (s : State) : s.scale = s.scaleNat :=
  (Int.toNat_of_nonneg s.scale_nonneg).symm

theorem offset_eq (s : State) : s.offset = s.offsetNat := by
  have hoffset : s.offset.toNat = s.offsetNat := by
    rw [offset, center, gridpx, scale_eq]; rfl
  rw [← hoffset, Int.toNat_of_nonneg s.offset_bounds.1]

/-- `SCALE` and `OFFSET` fit their registers (R33). -/
theorem scaleNat_le (s : State) : s.scaleNat ≤ 2621 := by
  have h := s.scale_le
  rw [scale_eq] at h; exact Int.ofNat_le.mp h

theorem offsetNat_le (s : State) : s.offsetNat ≤ 32779 := by
  have h := s.offset_bounds.2
  rw [offset_eq] at h; exact Int.ofNat_le.mp h

theorem readReg_status_toNat (s : State) : (s.readReg .status).toNat = r34 s 1 := by
  have hfull : s.full.toNat = if s.blen = 44#6 then 1 else 0 := by
    by_cases h : s.blen = 44#6 <;> simp [full, h]
  have herr : s.err.toNat = if s.err then 1 else 0 := by cases s.err <;> rfl
  show s.status.toNat = (if s.err then 1 else 0) + (if s.blen = 44#6 then 2 else 0) + 16 * s.lasterr.toNat
  rw [status_toNat, hfull, herr]
  split <;> split <;> omega

theorem readReg_scale_toNat (s : State) : (s.readReg .scale).toNat = r34 s 5 := by
  have hle := s.scaleNat_le
  show (BitVec.ofInt 16 s.scale).toNat = s.scaleNat
  rw [scale_eq, BitVec.ofInt_natCast, BitVec.toNat_ofNat]; omega

theorem readReg_offset_toNat (s : State) : (s.readReg .offset).toNat = r34 s 6 := by
  have hle := s.offsetNat_le
  show (BitVec.ofInt 16 s.offset).toNat = s.offsetNat
  rw [offset_eq, BitVec.ofInt_natCast, BitVec.toNat_ofNat]; omega

/-- The numbers below 8 are registers, and each reads as the number of R34. -/
theorem readReg_of_lt (s : State) {reg : Nat} (h : reg < 8) :
    ∃ r, regOfNumber reg = some r ∧ (s.readReg r).toNat = r34 s reg :=
  match reg, h with
  | 0, _ => ⟨.id, rfl, rfl⟩
  | 1, _ => ⟨.status, rfl, s.readReg_status_toNat⟩
  | 2, _ => ⟨.blen, rfl, BitVec.toNat_setWidth_of_le (by decide)⟩
  | 3, _ => ⟨.sizepx, rfl, rfl⟩
  | 4, _ => ⟨.quietpx, rfl, rfl⟩
  | 5, _ => ⟨.scale, rfl, s.readReg_scale_toNat⟩
  | 6, _ => ⟨.offset, rfl, s.readReg_offset_toNat⟩
  | 7, _ => ⟨.cur, rfl, BitVec.toNat_setWidth_of_le (by decide)⟩

end State

/-- The numbers from 8 on are reserved (R34). -/
theorem regOfNumber_reserved {reg : Nat} (h : 8 ≤ reg) : regOfNumber reg = none :=
  match reg, h with
  | _ + 8, _ => rfl

/-- The response of an accepted command as the sum of its fields (R97). -/
theorem successWord_eq_ofNat (echo : Byte) (data : Half) :
    successWord echo data = BitVec.ofNat 32 (echo.toNat * 2 ^ 16 + data.toNat) := by
  have hecho := echo.isLt
  have hdata := data.isLt
  apply BitVec.eq_of_toNat_eq
  rw [successWord, responseWord_toNat, BitVec.toNat_ofNat]
  simp; omega

/-- `RDR` of a register answers it (R173). -/
theorem exec_rdr_some {reg : Nat} {r : RegName} (s : State) (h : regOfNumber reg = some r) :
    exec (.rdr reg) s = .next (s.respond Op.rdr.code (s.readReg r)) := by
  show execRdr reg s = _
  rw [execRdr, h]

/-- `RDR` of a reserved number is refused with `E_RANGE` (R173). -/
theorem exec_rdr_none {reg : Nat} (s : State) (h : regOfNumber reg = none) :
    exec (.rdr reg) s = .next (s.refuse Op.rdr.code .eRange) := by
  show execRdr reg s = _
  rw [execRdr, h]

/-- Settles O43. -/
theorem rdrReadsEveryRegister : Obligations.RdrReadsEveryRegister := by
  intro s reg
  constructor
  · intro hreg
    obtain ⟨r, hr, hvalue⟩ := s.readReg_of_lt hreg
    refine ⟨hvalue ▸ (s.readReg r).isLt, ?_⟩
    rw [exec_rdr_some s hr, State.respond, successWord_eq_ofNat, hvalue]
    rfl
  · intro hreg
    have hword : refusalWord .eRange Op.rdr.code = 0x83420000#32 := by decide
    rw [exec_rdr_none s (regOfNumber_reserved hreg), State.refuse, hword]
    rfl

end Sys2Proof.Machine
end

section
/-! PROOFS. What `RAST` paints: R157's formula over natural numbers, and the quiet margin. -/

namespace Sys2Proof.Machine

open Sys2Proof.Spec

/-! ### The closed form -/

/-- The cell row or column a pixel coordinate falls in, over ℤ and over ℕ. -/
theorem cellIndex_eq {x o : Nat} (k : Nat) (h : o ≤ x) : (((x : Int) - o) / k).toNat = (x - o) / k := by
  rw [← Int.ofNat_sub h, ← Int.natCast_ediv, Int.toNat_natCast]

/-- The pixel `RAST` paints is R157's. -/
theorem State.rastPixel_eq_r157 (s : State) (x y : Nat) :
    s.rastPixel x y = r157 s.scaleNat s.offsetNat s.cell x y := by
  simp only [State.rastPixel, r157, State.scale_eq, State.offset_eq]
  refine if_congr ⟨?_, ?_⟩ rfl rfl
  · rintro ⟨hscale, hx0, hx, hy0, hy, hcell⟩
    rw [cellIndex_eq _ (by omega), cellIndex_eq _ (by omega)] at hcell
    exact ⟨by omega, by omega, by omega, by omega, by omega, hcell⟩
  · rintro ⟨hscale, hx0, hx, hy0, hy, hcell⟩
    refine ⟨by omega, by omega, by omega, by omega, by omega, ?_⟩
    rwa [cellIndex_eq _ hy0, cellIndex_eq _ hx0]

/-- A pixel R157 makes BLACK lies in the drawn square. -/
theorem mem_square_of_r157_black {k o x y : Nat} {cell : Nat → Nat → GridModule} (h : r157 k o cell x y = 1#1) :
    1 ≤ k ∧ (o ≤ x ∧ x < o + 25 * k) ∧ (o ≤ y ∧ y < o + 25 * k) := by
  unfold r157 at h
  split at h
  next hin =>
    obtain ⟨hk, hx0, hx, hy0, hy, -⟩ := hin
    exact ⟨hk, ⟨hx0, hx⟩, ⟨hy0, hy⟩⟩
  next => exact absurd h (by decide)

/-! ### `RAST` -/

/-- `RAST` is never refused (R155). -/
theorem exec_rast (s : State) :
    exec .rast s =
      .next ({ s with canvas := s.rastCanvas, cvOut := s.cvOut ++ s.rastWrites }.respond Op.rast.code 0#16) := rfl

/-- The canvas after `RAST`: R157's picture below `S·S`, the old canvas beyond. -/
theorem State.read_rastCanvas (s : State) (a : Nat) :
    s.rastCanvas.read a =
      if a < s.sizepx.toNat * s.sizepx.toNat then
        some (r157 s.scaleNat s.offsetNat s.cell (a % s.sizepx.toNat) (a / s.sizepx.toNat))
      else s.pixel a := by
  rw [State.rastCanvas, Memory.read_paint, State.rastPixel_eq_r157]

/-- The pixel `(x, y)` of the raster stands at address `y·S + x` (R64). -/
theorem State.read_rastCanvas_pixel (s : State) {x y : Nat} (hx : x < s.sizepx.toNat) (hy : y < s.sizepx.toNat) :
    s.rastCanvas.read (y * s.sizepx.toNat + x) = some (r157 s.scaleNat s.offsetNat s.cell x y) := by
  have hpos : 0 < s.sizepx.toNat := Nat.zero_lt_of_lt hx
  have haddr : y * s.sizepx.toNat + x < s.sizepx.toNat * s.sizepx.toNat := by
    calc y * s.sizepx.toNat + x < (y + 1) * s.sizepx.toNat := by rw [Nat.succ_mul]; omega
      _ ≤ s.sizepx.toNat * s.sizepx.toNat := Nat.mul_le_mul_right _ hy
  have hcol : (y * s.sizepx.toNat + x) % s.sizepx.toNat = x := by
    rw [Nat.mul_add_mod_self_right, Nat.mod_eq_of_lt hx]
  have hrow : (y * s.sizepx.toNat + x) / s.sizepx.toNat = y := by
    rw [Nat.mul_comm, Nat.mul_add_div hpos, Nat.div_eq_of_lt hx, Nat.add_zero]
  rw [State.read_rastCanvas, if_pos haddr, hcol, hrow]

/-- Settles O34. -/
theorem rastPaintsTheClosedForm : Obligations.RastPaintsTheClosedForm := by
  intro s
  have hword : successWord Op.rast.code 0#16 = 0x00320000#32 := by decide
  refine ⟨_, exec_rast s, fun x y hx hy => s.read_rastCanvas_pixel hx hy, fun a ha => ?_, ?_⟩
  · exact (s.read_rastCanvas a).trans (if_neg (Nat.not_lt.mpr ha))
  · simp only [State.respond, hword]

/-- The drawn square keeps the margin on both sides of an axis (R33, R158). -/
theorem State.square_within_margin (s : State) (h : 1 ≤ s.scaleNat) :
    s.quietpx.toNat ≤ s.offsetNat ∧ s.offsetNat + 25 * s.scaleNat + s.quietpx.toNat ≤ s.sizepx.toNat := by
  have hscale := s.scale_eq
  have hoffset := s.offset_eq
  have hinner : 25 ≤ s.inner := by
    by_contra hlt
    obtain ⟨hzero, -⟩ := State.geometry_of_inner_lt (Int.not_le.mp hlt)
    omega
  obtain ⟨-, -, hcenter⟩ := State.geometry_of_inner_nonneg (by omega : 0 ≤ s.inner)
  have hright := State.offset_add_gridpx (by omega : 0 ≤ s.inner)
  rw [State.gridpx] at hright
  have hleft : s.offset = s.quietpx.toNat + s.inner % 25 / 2 := by rw [State.offset, hcenter]
  constructor <;> omega

/-- Settles O37. -/
theorem rastKeepsTheQuietMargin : Obligations.RastKeepsTheQuietMargin := by
  intro s t x y h hx hy hblack
  obtain rfl := Host.Outcome.next.inj ((exec_rast s).symm.trans h)
  have hpixel := (s.read_rastCanvas_pixel hx hy).symm.trans hblack
  obtain ⟨hscale, hxs, hys⟩ := mem_square_of_r157_black (Option.some.inj hpixel)
  obtain ⟨hleft, hright⟩ := s.square_within_margin hscale
  omega

end Sys2Proof.Machine
end

section
/-! PROOFS. The canonical sequence forgets the state before it: what is still different narrows command by command. -/

namespace Sys2Proof.Machine

open Host (Outcome)
open Sys2Proof.Spec

/-! ### Running commands in order -/

theorem runCommands_nil {s t : State} : runCommands [] s = .next t ↔ s = t :=
  ⟨Outcome.next.inj, congrArg _⟩

theorem runCommands_cons {i : Instr} {is : List Instr} {s u : State} :
    runCommands (i :: is) s = .next u ↔ ∃ t, exec i s = .next t ∧ runCommands is t = .next u := by
  rw [runCommands]
  cases hexec : exec i s <;> simp

theorem runCommands_append {is js : List Instr} {s u : State} :
    runCommands (is ++ js) s = .next u ↔ ∃ t, runCommands is s = .next t ∧ runCommands js t = .next u := by
  induction is generalizing s with
  | nil => simp [runCommands_nil]
  | cons i is ih =>
    simp only [List.cons_append, runCommands_cons, ih]
    constructor
    · rintro ⟨a, ha, b, hb, hu⟩; exact ⟨b, ⟨a, ha, hb⟩, hu⟩
    · rintro ⟨b, ⟨a, ha, hb⟩, hu⟩; exact ⟨a, ha, b, hb, hu⟩

/-! ### The packing commands -/

theorem exec_pclr (s : State) : exec .pclr s = .next ({ s with blen := 0#6 }.respond Op.pclr.code 0#16) := rfl

theorem exec_push (v : Byte) (s : State) :
    exec (.push v) s = .next ((if s.blen.toNat < 44 then s.append v else s).respond Op.push.code 0#16) := rfl

theorem exec_pad (s : State) : exec .pad s = .next ((s.padLoop 44).respond Op.pad.code 0#16) := rfl

/-- Appending to a buffer with room makes `BLEN` one more. -/
theorem State.append_blen_toNat {s : State} (room : s.blen.toNat < 44) (v : Byte) :
    (s.append v).blen.toNat = s.blen.toNat + 1 := by
  rw [State.append_blen]; bv_omega

/-- With enough rounds the loop of `PAD` fills the buffer (R123). -/
theorem State.padLoop_blen {fuel : Nat} {s : State} (hle : s.blen.toNat ≤ 44) (hfuel : 44 ≤ s.blen.toNat + fuel) :
    (s.padLoop fuel).blen = 44#6 := by
  induction fuel generalizing s with
  | zero =>
    rw [State.padLoop]; bv_omega
  | succ fuel ih =>
    rw [State.padLoop]
    split
    next room =>
      have hone := State.append_blen_toNat room Config.fill0
      dsimp only
      split
      next filled => exact BitVec.eq_of_toNat_eq filled
      next notFilled =>
        simp only [Config.capacity] at room notFilled
        have htwo := State.append_blen_toNat (s := s.append Config.fill0) (by omega) Config.fill1
        exact ih (by omega) (by omega)
    next noRoom =>
      simp only [Config.capacity] at noRoom
      bv_omega

/-- The two buffers hold the same text: the same number of valid bytes, and the same valid bytes. -/
structure SameText (s₁ s₂ : State) : Prop where
  blen : s₁.blen = s₂.blen
  le : s₁.blen.toNat ≤ 44
  byte : ∀ i, i < s₁.blen.toNat → s₁.byte i = s₂.byte i

namespace SameText

variable {s₁ s₂ : State}

/-- After `PCLR` no valid byte is left to differ. -/
theorem of_blen_zero (h₁ : s₁.blen = 0#6) (h₂ : s₂.blen = 0#6) : SameText s₁ s₂ where
  blen := h₁.trans h₂.symm
  le := by rw [h₁]; decide
  byte i hi := by rw [h₁] at hi; exact absurd hi (Nat.not_lt_zero i)

/-- The same byte appended to the same text. -/
theorem append (h : SameText s₁ s₂) (room : s₁.blen.toNat < 44) (v : Byte) :
    SameText (s₁.append v) (s₂.append v) where
  blen := by rw [State.append_blen, State.append_blen, h.blen]
  le := by rw [State.append_blen_toNat room]; exact room
  byte i hi := by
    rw [State.append_blen_toNat room] at hi
    simp only [State.byte, State.append_buf, Buf.byte_setByte, ← h.blen]
    split
    next => rfl
    next hne => exact h.byte i (by omega)

/-- The same padding of the same text. -/
theorem padLoop (h : SameText s₁ s₂) (fuel : Nat) : SameText (s₁.padLoop fuel) (s₂.padLoop fuel) := by
  induction fuel generalizing s₁ s₂ with
  | zero => exact h
  | succ fuel ih =>
    have hroom : s₁.blen.toNat < 44 ↔ s₂.blen.toNat < 44 := by rw [h.blen]
    by_cases room : s₁.blen.toNat < 44
    · have hone := h.append room Config.fill0
      have hfilled : (s₁.append Config.fill0).blen.toNat = 44 ↔ (s₂.append Config.fill0).blen.toNat = 44 := by
        rw [hone.blen]
      by_cases filled : (s₁.append Config.fill0).blen.toNat = 44
      · simpa only [State.padLoop, Config.capacity, if_pos room, if_pos (hroom.mp room), if_pos filled,
          if_pos (hfilled.mp filled)] using hone
      · simpa only [State.padLoop, Config.capacity, if_pos room, if_pos (hroom.mp room), if_neg filled,
          if_neg (mt hfilled.mpr filled)] using ih (hone.append (lt_of_le_of_ne hone.le filled) Config.fill1)
    · simpa only [State.padLoop, Config.capacity, if_neg room, if_neg (mt hroom.mpr room)] using h

/-- The same text pushed onto the same text (R121, R122). -/
theorem push {t₁ t₂ : State} (h : SameText s₁ s₂) {v : Byte} (e₁ : exec (.push v) s₁ = .next t₁)
    (e₂ : exec (.push v) s₂ = .next t₂) : SameText t₁ t₂ := by
  obtain rfl := Outcome.next.inj ((exec_push v s₁).symm.trans e₁)
  obtain rfl := Outcome.next.inj ((exec_push v s₂).symm.trans e₂)
  rw [← h.blen]
  split
  next room =>
    have happ := h.append room v
    exact ⟨happ.blen, happ.le, happ.byte⟩
  next => exact ⟨h.blen, h.le, h.byte⟩

theorem pushes {t₁ t₂ : State} (h : SameText s₁ s₂) {text : List Byte}
    (e₁ : runCommands (text.map .push) s₁ = .next t₁) (e₂ : runCommands (text.map .push) s₂ = .next t₂) :
    SameText t₁ t₂ := by
  induction text generalizing s₁ s₂ with
  | nil =>
    obtain rfl := runCommands_nil.mp e₁
    obtain rfl := runCommands_nil.mp e₂
    exact h
  | cons v text ih =>
    obtain ⟨u₁, hv₁, e₁⟩ := runCommands_cons.mp e₁
    obtain ⟨u₂, hv₂, e₂⟩ := runCommands_cons.mp e₂
    exact ih (h.push hv₁ hv₂) e₁ e₂

/-- `PAD` leaves no byte of the buffer outside the text. -/
theorem buf_after_pad {t₁ t₂ : State} (h : SameText s₁ s₂) (e₁ : exec .pad s₁ = .next t₁)
    (e₂ : exec .pad s₂ = .next t₂) : t₁.buf = t₂.buf ∧ t₁.blen = 44#6 ∧ t₂.blen = 44#6 := by
  obtain rfl := Outcome.next.inj ((exec_pad s₁).symm.trans e₁)
  obtain rfl := Outcome.next.inj ((exec_pad s₂).symm.trans e₂)
  have hpad := h.padLoop 44
  have hfull : (s₁.padLoop 44).blen = 44#6 := State.padLoop_blen h.le (Nat.le_add_left ..)
  refine ⟨Buf.ext_byte fun i hi => hpad.byte i ?_, hfull, hpad.blen.symm.trans hfull⟩
  rw [hfull]; exact hi

end SameText

/-- The packing sequence leaves a buffer that only the text decides. -/
theorem buf_of_pack {s₁ s₂ t₁ t₂ : State} {text : List Byte}
    (e₁ : runCommands (Pseudo.pack text).expand s₁ = .next t₁)
    (e₂ : runCommands (Pseudo.pack text).expand s₂ = .next t₂) :
    t₁.buf = t₂.buf ∧ t₁.blen = 44#6 ∧ t₂.blen = 44#6 := by
  simp only [Pseudo.expand, runCommands_cons, runCommands_append, runCommands_nil] at e₁ e₂
  obtain ⟨a₁, hpclr₁, b₁, hpush₁, c₁, hpad₁, rfl⟩ := e₁
  obtain ⟨a₂, hpclr₂, b₂, hpush₂, c₂, hpad₂, rfl⟩ := e₂
  obtain rfl := Outcome.next.inj ((exec_pclr s₁).symm.trans hpclr₁)
  obtain rfl := Outcome.next.inj ((exec_pclr s₂).symm.trans hpclr₂)
  exact ((SameText.of_blen_zero rfl rfl).pushes hpush₁ hpush₂).buf_after_pad hpad₁ hpad₂

/-! ### `BUILD` and the rendering -/

/-- The two states show the same symbol. -/
structure SameSymbol (s₁ s₂ : State) : Prop where
  buf : s₁.buf = s₂.buf
  blen : s₁.blen = s₂.blen
  grid : s₁.grid = s₂.grid
  cur : s₁.cur = s₂.cur

/-- `BUILD` on a full buffer leaves what the scan of the structural grid leaves (R146). -/
theorem exec_build_of_blen {s t : State} (hblen : s.blen = 44#6) (h : exec .build s = .next t) :
    ∃ left, scan s.buf Grid.structural = left ∧ t = (s.withScan left).respond Op.build.code 0#16 := by
  rcases exec_build_cases h with ⟨-, hleft⟩ | ⟨hshort, -⟩
  · exact hleft
  · exact absurd (by simp [State.full, hblen]) hshort

/-- `BUILD` on the same full buffer: the grid before it does not matter. -/
theorem SameSymbol.of_build {s₁ s₂ t₁ t₂ : State} (hbuf : s₁.buf = s₂.buf) (h₁ : s₁.blen = 44#6)
    (h₂ : s₂.blen = 44#6) (e₁ : exec .build s₁ = .next t₁) (e₂ : exec .build s₂ = .next t₂) : SameSymbol t₁ t₂ := by
  obtain ⟨left₁, hleft₁, rfl⟩ := exec_build_of_blen h₁ e₁
  obtain ⟨left₂, hleft₂, rfl⟩ := exec_build_of_blen h₂ e₂
  rw [hbuf] at hleft₁
  obtain rfl : left₁ = left₂ := hleft₁.symm.trans hleft₂
  exact ⟨hbuf, h₁.trans h₂.symm, rfl, rfl⟩

/-- Rendering keeps the symbol and paints a canvas that the size, the margin and the grid decide. -/
theorem render_result {s t : State} {size quiet : Half}
    (h : runCommands (Pseudo.render size quiet).expand s = .next t) :
    SameSymbol t s ∧ ∀ a, a < size.toNat * size.toNat →
      t.pixel a = some (r157 (r32Scale size.toNat quiet.toNat) (r32Offset size.toNat quiet.toNat)
        s.cell (a % size.toNat) (a / size.toNat)) := by
  simp only [Pseudo.expand, runCommands_cons, runCommands_nil] at h
  obtain ⟨a, hsets, b, hsetq, c, hrast, rfl⟩ := h
  obtain rfl := Outcome.next.inj hsets
  obtain rfl := Outcome.next.inj hsetq
  obtain rfl := Outcome.next.inj ((exec_rast _).symm.trans hrast)
  exact ⟨⟨rfl, rfl, rfl, rfl⟩, fun p hp => (State.read_rastCanvas _ p).trans (if_pos hp)⟩

/-- The canonical sequence is packing, `BUILD`, then rendering. -/
theorem canonical_run {s t : State} {text : List Byte} {size quiet : Half}
    (h : runCommands ((Pseudo.encode text).expand ++ (Pseudo.render size quiet).expand) s = .next t) :
    ∃ packed built, runCommands (Pseudo.pack text).expand s = .next packed ∧ exec .build packed = .next built ∧
      runCommands (Pseudo.render size quiet).expand built = .next t := by
  have hencode : (Pseudo.encode text).expand = (Pseudo.pack text).expand ++ [.build] := by simp [Pseudo.expand]
  rw [hencode, runCommands_append] at h
  obtain ⟨built, hbuilt, hrender⟩ := h
  obtain ⟨packed, hpack, hbuild⟩ := runCommands_append.mp hbuilt
  obtain ⟨_, hexec, hlast⟩ := runCommands_cons.mp hbuild
  obtain rfl := runCommands_nil.mp hlast
  exact ⟨packed, _, hpack, hexec, hrender⟩

/-- Settles O53. -/
theorem canonicalSequenceForgetsThePast : Obligations.CanonicalSequenceForgetsThePast := by
  intro s₁ s₂ t₁ t₂ text size quiet h₁ h₂
  obtain ⟨packed₁, built₁, hpack₁, hbuild₁, hrender₁⟩ := canonical_run h₁
  obtain ⟨packed₂, built₂, hpack₂, hbuild₂, hrender₂⟩ := canonical_run h₂
  obtain ⟨hbuf, hfull₁, hfull₂⟩ := buf_of_pack hpack₁ hpack₂
  have hsymbol := SameSymbol.of_build hbuf hfull₁ hfull₂ hbuild₁ hbuild₂
  obtain ⟨hkeep₁, hcanvas₁⟩ := render_result hrender₁
  obtain ⟨hkeep₂, hcanvas₂⟩ := render_result hrender₂
  refine ⟨?_, ?_, ?_, ?_, fun a ha => ?_⟩
  · rw [hkeep₁.buf, hsymbol.buf, hkeep₂.buf]
  · rw [hkeep₁.blen, hsymbol.blen, hkeep₂.blen]
  · rw [hkeep₁.grid, hsymbol.grid, hkeep₂.grid]
  · rw [hkeep₁.cur, hsymbol.cur, hkeep₂.cur]
  · have hcell : built₁.cell = built₂.cell := congrArg Grid.cell hsymbol.grid
    rw [hcanvas₁ a ha, hcanvas₂ a ha, hcell]

end Sys2Proof.Machine
end

section
/-! PROOFS. The write sequence of `RAST` (R156): where its writes go, how many there are, and the canvas they make. -/

namespace Sys2Proof.Machine

open Sys2Proof.Spec

/-! ### Lists of writes -/

/-- Writes of one value: every address among them holds it, every other address is as before. -/
theorem Memory.read_applyWrites_const {ws : List (Nat × Pixel)} {v : Pixel} (hv : ∀ e ∈ ws, e.2 = v)
    (m : Memory) (a : Nat) :
    (m.applyWrites ws).read a = if a ∈ ws.map Prod.fst then some v else m.read a := by
  induction ws generalizing m with
  | nil => rfl
  | cons w ws ih =>
    have hw : w.2 = v := hv w List.mem_cons_self
    have htail : (m.applyWrites (w :: ws)).read a = _ :=
      ih (fun e he => hv e (List.mem_cons_of_mem _ he)) (m.write w.1 w.2)
    rw [htail, Memory.read_write, hw, List.map_cons]
    by_cases hlater : a ∈ ws.map Prod.fst
    · rw [if_pos hlater, if_pos (List.mem_cons_of_mem _ hlater)]
    · simp only [if_neg hlater, List.mem_cons, or_iff_left hlater]

/-- Lists of one length, joined for the entries that pass a test. -/
theorem length_flatMap_ite {α β : Type} (l : List α) (p : α → Prop) [DecidablePred p] {f : α → List β} {n : Nat}
    (hf : ∀ x, (f x).length = n) :
    (l.flatMap fun x => if p x then f x else []).length = n * l.countP (fun x => decide (p x)) := by
  induction l with
  | nil => rfl
  | cons x l ih =>
    rw [List.flatMap_cons, List.length_append, ih, List.countP_cons]
    by_cases hx : p x
    · simp only [hx, if_true, decide_true, hf]
      ring
    · simp [hx]

/-! ### Pixel addresses -/

section

variable {S x y : Nat}

/-- The address of a pixel of the raster is below `S·S` (R64). -/
theorem pixelAddress_lt (hx : x < S) (hy : y < S) : y * S + x < S * S :=
  calc y * S + x < (y + 1) * S := by rw [Nat.succ_mul]; omega
    _ ≤ S * S := Nat.mul_le_mul_right _ hy

/-- The column of an address. -/
theorem pixelAddress_mod (hx : x < S) : (y * S + x) % S = x := by
  rw [Nat.mul_add_mod_self_right, Nat.mod_eq_of_lt hx]

/-- The row of an address. -/
theorem pixelAddress_div (hx : x < S) : (y * S + x) / S = y := by
  rw [Nat.mul_comm, Nat.mul_add_div (Nat.zero_lt_of_lt hx), Nat.div_eq_of_lt hx, Nat.add_zero]

end

/-! ### The squares and R157's formula -/

/-- The coordinates of one axis that belong to grid index `i`: by offset within the square, as R156 forms them,
and by division, as R157 asks. -/
theorem coordinate_in_square_iff {k o i z : Nat} :
    (∃ d < k, o + i * k + d = z) ↔ 1 ≤ k ∧ o ≤ z ∧ (z - o) / k = i := by
  constructor
  · rintro ⟨d, hd, rfl⟩
    have hk : 0 < k := Nat.zero_lt_of_lt hd
    refine ⟨hk, by omega, ?_⟩
    rw [Nat.add_assoc, Nat.add_sub_cancel_left, Nat.mul_comm, Nat.mul_add_div hk, Nat.div_eq_of_lt hd, Nat.add_zero]
  · rintro ⟨hk, hz, rfl⟩
    have hdiv := Nat.div_add_mod' (z - o) k
    exact ⟨(z - o) % k, Nat.mod_lt _ hk, by omega⟩

/-- R157's black pixels are those of the squares of the DARK cells. -/
theorem r157_eq_black_iff {k o x y : Nat} {cell : Nat → Nat → GridModule} :
    r157 k o cell x y = 1#1 ↔ ∃ r < 25, ∃ c < 25, cell r c = .dark ∧
      (∃ dy < k, o + r * k + dy = y) ∧ (∃ dx < k, o + c * k + dx = x) := by
  simp only [coordinate_in_square_iff]
  constructor
  · intro h
    unfold r157 at h
    split at h
    next hin =>
      obtain ⟨hk, hx0, hx, hy0, hy, hcell⟩ := hin
      have hrow : (y - o) / k < 25 := Nat.div_lt_of_lt_mul (by rw [Nat.mul_comm]; omega)
      have hcol : (x - o) / k < 25 := Nat.div_lt_of_lt_mul (by rw [Nat.mul_comm]; omega)
      exact ⟨_, hrow, _, hcol, hcell, ⟨hk, hy0, rfl⟩, hk, hx0, rfl⟩
    next => exact absurd h (by decide)
  · rintro ⟨r, hr, c, hc, hcell, ⟨hk, hy0, rfl⟩, -, hx0, rfl⟩
    have hy := (Nat.div_lt_iff_lt_mul hk).mp hr
    have hx := (Nat.div_lt_iff_lt_mul hk).mp hc
    exact if_pos ⟨hk, hx0, by omega, hy0, by omega, hcell⟩

/-! ### The two phases -/

namespace State

theorem scale_toNat (s : State) : s.scale.toNat = s.scaleNat := by rw [scale_eq, Int.toNat_natCast]

theorem offset_toNat (s : State) : s.offset.toNat = s.offsetNat := by rw [offset_eq, Int.toNat_natCast]

/-- The writes on the port are R156's. -/
theorem rastWrites_eq_r156 (s : State) : s.rastWrites = r156 s.sizepx.toNat s.scaleNat s.offsetNat s.cell := by
  simp only [rastWrites, whiteWrites, blackWrites, squareWrites, scale_toNat, offset_toNat]
  rfl

/-- A square has `scale²` pixels. -/
theorem length_squareWrites (s : State) (r c : Nat) : (s.squareWrites r c).length = s.scaleNat * s.scaleNat := by
  simp [squareWrites, List.length_flatMap, scale_toNat]

/-- The black phase has `scale²` writes for each DARK cell. -/
theorem length_blackWrites (s : State) : s.blackWrites.length = s.scaleNat * s.scaleNat * s.grid.darkCount := by
  have hrow (r : Nat) := length_flatMap_ite (List.range 25) (fun c => s.grid.cell r c = .dark) (s.length_squareWrites r)
  simp only [blackWrites, List.length_flatMap, hrow, List.sum_map_mul_left, Grid.darkCount]
  rfl

/-- `RAST` makes `S² + scale² × (DARK cells)` writes (R226). -/
theorem length_rastWrites (s : State) :
    s.rastWrites.length = s.sizepx.toNat * s.sizepx.toNat + s.scaleNat * s.scaleNat * s.grid.darkCount := by
  rw [rastWrites, List.length_append, length_blackWrites, whiteWrites, List.length_map, List.length_range]

/-- The black phase writes BLACK to the pixels that R157 makes BLACK, and nothing else. -/
theorem mem_blackWrites {s : State} {e : Nat × Pixel} :
    e ∈ s.blackWrites ↔
      ∃ x y, r157 s.scaleNat s.offsetNat s.cell x y = 1#1 ∧ e = (y * s.sizepx.toNat + x, Pixel.black) := by
  simp only [r157_eq_black_iff, blackWrites, squareWrites, scale_toNat, offset_toNat, List.mem_flatMap, List.mem_range,
    List.mem_ite_nil_right, List.mem_map]
  constructor
  · rintro ⟨r, hr, c, hc, hcell, dy, hdy, dx, hdx, rfl⟩
    exact ⟨_, _, ⟨r, hr, c, hc, hcell, ⟨dy, hdy, rfl⟩, dx, hdx, rfl⟩, rfl⟩
  · rintro ⟨_, _, ⟨r, hr, c, hc, hcell, ⟨dy, hdy, rfl⟩, dx, hdx, rfl⟩, rfl⟩
    exact ⟨r, hr, c, hc, hcell, dy, hdy, dx, hdx, rfl⟩

/-- A pixel that R157 makes BLACK is a pixel of the raster (R33). -/
theorem lt_sizepx_of_r157_black {s : State} {x y : Nat} (h : r157 s.scaleNat s.offsetNat s.cell x y = 1#1) :
    x < s.sizepx.toNat ∧ y < s.sizepx.toNat := by
  obtain ⟨hscale, hx, hy⟩ := mem_square_of_r157_black h
  obtain ⟨-, hright⟩ := s.square_within_margin hscale
  omega

/-- The addresses of the black phase are those below `S·S` whose pixel R157 makes BLACK. -/
theorem mem_addresses_blackWrites {s : State} {a : Nat} :
    a ∈ s.blackWrites.map Prod.fst ↔
      a < s.sizepx.toNat * s.sizepx.toNat ∧
        r157 s.scaleNat s.offsetNat s.cell (a % s.sizepx.toNat) (a / s.sizepx.toNat) = 1#1 := by
  simp only [List.mem_map, mem_blackWrites]
  constructor
  · rintro ⟨_, ⟨x, y, hblack, rfl⟩, rfl⟩
    obtain ⟨hx, hy⟩ := lt_sizepx_of_r157_black hblack
    rw [pixelAddress_mod hx, pixelAddress_div hx]
    exact ⟨pixelAddress_lt hx hy, hblack⟩
  · rintro ⟨-, hblack⟩
    exact ⟨_, ⟨_, _, hblack, rfl⟩, Nat.div_add_mod' a _⟩

/-- The white phase writes exactly the addresses below `S·S`. -/
theorem mem_addresses_whiteWrites {s : State} {a : Nat} :
    a ∈ s.whiteWrites.map Prod.fst ↔ a < s.sizepx.toNat * s.sizepx.toNat := by
  simp [whiteWrites]

/-- Every write of `RAST` is on the raster (R66). -/
theorem rastWrites_lt {s : State} {e : Nat × Pixel} (h : e ∈ s.rastWrites) :
    e.1 < s.sizepx.toNat * s.sizepx.toNat := by
  have haddr := List.mem_map_of_mem (f := Prod.fst) h
  rw [rastWrites, List.map_append, List.mem_append, mem_addresses_whiteWrites, mem_addresses_blackWrites] at haddr
  exact haddr.elim id And.left

/-- Addresses of the raster fit 32 bits (R64). -/
theorem raster_lt (s : State) : s.sizepx.toNat * s.sizepx.toNat < 2 ^ 32 :=
  calc s.sizepx.toNat * s.sizepx.toNat < 2 ^ 16 * 2 ^ 16 := Nat.mul_lt_mul'' s.sizepx.isLt s.sizepx.isLt
    _ = 2 ^ 32 := by norm_num

/-! ### The canvas the writes make -/

/-- What a pixel reads as after R156's writes is what it reads as in R157's picture: BLACK where the black phase
comes by, else WHITE on the raster, else as before. -/
theorem read_applyWrites_rastWrites (s : State) (a : Nat) :
    (s.canvas.applyWrites s.rastWrites).read a = s.rastCanvas.read a := by
  have hwhite : ∀ e ∈ s.whiteWrites, e.2 = Pixel.white := by simp [whiteWrites]
  have hblack : ∀ e ∈ s.blackWrites, e.2 = Pixel.black := fun e he => by
    obtain ⟨x, y, -, rfl⟩ := mem_blackWrites.mp he
    rfl
  simp only [rastWrites, Memory.applyWrites_append, Memory.read_applyWrites_const hblack,
    Memory.read_applyWrites_const hwhite, mem_addresses_whiteWrites, mem_addresses_blackWrites, read_rastCanvas]
  by_cases ha : a < s.sizepx.toNat * s.sizepx.toNat
  · rcases BitVec.eq_zero_or_eq_one (r157 s.scaleNat s.offsetNat s.cell (a % s.sizepx.toNat) (a / s.sizepx.toNat)) with
      hpixel | hpixel
    · simp [ha, hpixel]
    · simp [ha, hpixel]
  · simp [ha]

/-- R157's picture is what R156's writes make of the canvas (log entry 7). -/
theorem rastCanvas_eq_applyWrites {s : State} (hwf : s.canvas.wf) :
    s.rastCanvas = s.canvas.applyWrites s.rastWrites :=
  Memory.ext_read (Memory.wf_paint hwf _ _) (Memory.wf_applyWrites _ hwf) fun a => (s.read_applyWrites_rastWrites a).symm

end State

/-- Settles O35, by comparing what every pixel reads as. -/
theorem rastCanvasIsWhatItsWritesMake : Obligations.RastCanvasIsWhatItsWritesMake :=
  fun s hwf => ⟨_, s.rastWrites, exec_rast s, s.rastWrites_eq_r156, rfl, State.rastCanvas_eq_applyWrites hwf⟩

/-- Settles O36. -/
theorem rastWritesStayOnTheCanvas : Obligations.RastWritesStayOnTheCanvas := by
  intro s t h
  obtain rfl := Host.Outcome.next.inj ((exec_rast s).symm.trans h)
  exact ⟨s.rastWrites, rfl, fun e he => ⟨State.rastWrites_lt he, (State.rastWrites_lt he).trans s.raster_lt⟩,
    s.length_rastWrites⟩

end Sys2Proof.Machine
end

section
/-! PROOFS. Who writes the canvas: every step sends what it writes over the port, and only `RAST` has something to send. -/

namespace Sys2Proof.Machine

/-! ### The word of `RAST` -/

/-- Only `RAST` has the opcode of `RAST`. -/
theorem op_eq_rast {i : Instr} (h : i.op = .rast) : i = .rast := by
  cases i with
  | rast => rfl
  | _ => cases h

/-- Only one word decodes to `RAST`: its mask fixes every bit (R93). -/
theorem word_of_decode_rast {w : Word} (h : decode w = .command .rast) : w = 0x32000000#32 := by
  unfold decode at h
  split at h
  next => cases h
  next o _ =>
    split at h
    next hmatch =>
      obtain rfl : o = .rast := (op_instr o w).symm.trans (congrArg Instr.op (Decoded.command.inj h))
      calc w = w &&& Op.rast.mask := (BitVec.and_allOnes (x := w)).symm
        _ = Op.rast.matchWord := hmatch
    next => cases h

/-- A word other than `RAST`'s has written nothing when it is cut short (R66, R212). -/
theorem State.abandonedPrefix_eq_nil (s : State) {w : Word} (hw : decode w ≠ .command .rast) :
    s.abandonedPrefix w = [] := by
  unfold State.abandonedPrefix
  split
  next hdec => exact absurd hdec hw
  next => rfl

/-! ### What goes over the port and what it makes of the canvas -/

/-- From `s` to `t` the transfers `ws` went over the canvas port, and the canvas is what they make of the old one
(R66, R73). -/
structure State.Sends (s : State) (ws : List (Nat × Pixel)) (t : State) : Prop where
  cvOut : t.cvOut = s.cvOut ++ ws
  canvas : t.canvas = s.canvas.applyWrites ws

/-- Sending nothing leaves the port's history and the canvas. -/
theorem State.sends_nil {s t : State} (hcanvas : t.canvas = s.canvas) (hcvOut : t.cvOut = s.cvOut) : s.Sends [] t where
  cvOut := by rw [hcvOut, List.append_nil]
  canvas := hcanvas

/-- Every command sends what it writes. -/
theorem exec_sends {i : Instr} {s t : State} (hwf : s.canvas.wf) (h : exec i s = .next t) : ∃ ws, s.Sends ws t := by
  by_cases hi : i = .rast
  · subst hi
    obtain rfl := Host.Outcome.next.inj ((exec_rast s).symm.trans h)
    exact ⟨s.rastWrites, rfl, State.rastCanvas_eq_applyWrites hwf⟩
  · have hframe := exec_frame h
    have hop : i.op ≠ .rast := fun e => hi (op_eq_rast e)
    exact ⟨[], State.sends_nil (hframe.canvas hop) (hframe.cvOut hop)⟩

/-- Every step sends what it writes, a `RAST` cut short included. -/
theorem step_sends {s t : State} (hwf : s.canvas.wf) (h : step s = .next t) : ∃ ws, s.Sends ws t := by
  cases step_cases h with
  | idle _ ht => exact ⟨[], ht ▸ State.sends_nil rfl rfl⟩
  | command w rest i _ _ ht =>
    obtain ⟨ws, hcvOut, hcanvas⟩ := exec_sends (s := s.accept rest) hwf ht
    exact ⟨ws, hcvOut, hcanvas⟩
  | illegal w rest c _ _ ht => exact ⟨[], ht ▸ State.sends_nil rfl rfl⟩
  | commandCut w rest _ ht => exact ⟨(s.accept rest).abandonedPrefix w, ht ▸ ⟨rfl, rfl⟩⟩
  | resetPulse rest _ ht => exact ⟨[], ht ▸ State.sends_nil rfl rfl⟩

/-- Sending keeps the canvas the port's history. -/
theorem State.Sends.canvasIsPortHistory {s t : State} {ws : List (Nat × Pixel)} (h : s.Sends ws t)
    (hs : s.CanvasIsPortHistory) : t.CanvasIsPortHistory :=
  calc t.canvas = (Memory.applyWrites [] s.cvOut).applyWrites ws := by rw [h.canvas, ← hs]
    _ = Memory.applyWrites [] t.cvOut := by rw [h.cvOut, Memory.applyWrites_append]

/-- A canvas that is the port's history has the one form. -/
theorem State.CanvasIsPortHistory.wf {s : State} (hs : s.CanvasIsPortHistory) : s.canvas.wf :=
  hs ▸ Memory.wf_applyWrites s.cvOut Memory.wf_nil

/-- Settles O50: each step sends what it writes. -/
theorem stepKeepsTheCanvasThePortHistory : Obligations.StepKeepsTheCanvasThePortHistory := by
  intro s t hs h
  obtain ⟨ws, hsends⟩ := step_sends (State.CanvasIsPortHistory.wf hs) h
  exact hsends.canvasIsPortHistory hs

/-! ### Only `RAST` writes the canvas -/

/-- Settles O51, by cases on what a step can do: no other case writes the canvas. -/
theorem onlyRastChangesTheCanvas : Obligations.OnlyRastChangesTheCanvas := by
  intro s t a h hpixel
  have hchanged : t.canvas ≠ s.canvas := fun e => hpixel (congrArg (Memory.read · a) e)
  cases step_cases h with
  | idle _ ht => exact absurd (ht ▸ rfl) hchanged
  | command w rest i hin hdec ht =>
    have hop : i.op = .rast := not_not.mp fun hne => hchanged ((exec_frame ht).canvas hne)
    rw [op_eq_rast hop] at hdec
    exact ⟨rest, .inl (word_of_decode_rast hdec ▸ hin)⟩
  | illegal w rest c _ _ ht => exact absurd (ht ▸ rfl) hchanged
  | commandCut w rest hin ht =>
    have hdec : decode w = .command .rast := not_not.mp fun hne => hchanged <| by
      rw [ht]
      exact congrArg s.canvas.applyWrites ((s.accept rest).abandonedPrefix_eq_nil hne)
    exact ⟨rest, .inr (word_of_decode_rast hdec ▸ hin)⟩
  | resetPulse rest _ ht => exact absurd (ht ▸ rfl) hchanged

end Sys2Proof.Machine
end

section
/-! PROOFS. The decoder and the encoder are inverse to each other, and the decoder follows the table of R93. -/

namespace Sys2Proof

open Sys2Proof.Machine Sys2Proof.Spec

/-! ### The opcode byte -/

/-- The table finds each opcode by its byte: no two rows of R93 share one. -/
theorem Op.ofByte_code (o : Op) : Op.ofByte o.code = some o := by
  cases o <;> rfl

theorem Op.mem_all (o : Op) : o ∈ Op.all := by
  cases o <;> decide

/-- A word with an assigned opcode is held against its row of R93 (R94). -/
theorem decode_of_code {w : Word} {o : Op} (h : opByte w = o.code) :
    decode w = if w &&& o.mask = o.matchWord then .command (o.instr w) else .illegal .eRsvd := by
  rw [decode, h, Op.ofByte_code]

/-- A word with an unassigned opcode is illegal (R94). -/
theorem decode_of_unassigned {w : Word} (h : ∀ o : Op, o.code ≠ opByte w) : decode w = .illegal .eOpcode := by
  have hnone : Op.ofByte (opByte w) = none := List.find?_eq_none.mpr fun o _ => by simpa using h o
  rw [decode, hnone]

/-- What a word that decodes to a command meets: the row of R93 of the command's opcode (R94). -/
theorem eq_instr_of_decode {w : Word} {i : Instr} (h : decode w = .command i) :
    ∃ o : Op, w &&& o.mask = o.matchWord ∧ i = o.instr w := by
  by_cases hcode : ∃ o : Op, o.code = opByte w
  · obtain ⟨o, ho⟩ := hcode
    rw [decode_of_code ho.symm] at h
    split at h
    next hmatch => exact ⟨o, hmatch, (Decoded.command.inj h).symm⟩
    next => cases h
  · rw [decode_of_unassigned (not_exists.mp hcode)] at h
    cases h

/-- The top byte of every command's word is its opcode (R90). -/
theorem opByte_encode (i : Instr) : opByte (encode i) = i.op.code := by
  cases i with
  | push imm8 => exact Laws.OpcodeByte.push imm8
  | find k => exact Laws.OpcodeByte.find k
  | sets imm16 => exact Laws.OpcodeByte.sets imm16
  | setq imm16 => exact Laws.OpcodeByte.setq imm16
  | rdb idx => exact Laws.OpcodeByte.rdb idx
  | rdg row col => exact Laws.OpcodeByte.rdg row col
  | rdr reg => exact Laws.OpcodeByte.rdr reg
  | _ => exact Laws.OpcodeByte.bare _

/-! ### Operand fields -/

/-- The command an opcode reads from any word is well formed: each operand is a field of the word (R91). -/
theorem wellFormed_instr (o : Op) (w : Word) : (o.instr w).WellFormed := by
  have hfield (lo n : Nat) : (w.extractLsb' lo n).toNat < 2 ^ n := (w.extractLsb' lo n).isLt
  cases o with
  | find => exact decide_eq_true (hfield 0 2)
  | rdb => exact decide_eq_true (hfield 0 6)
  | rdg => exact Bool.and_eq_true_iff.mpr ⟨decide_eq_true (hfield 8 5), decide_eq_true (hfield 0 5)⟩
  | rdr => exact decide_eq_true (hfield 0 4)
  | _ => rfl

/-- Reading the fields of a well-formed command's word gives the command back (R91). -/
theorem instr_encode {i : Instr} (h : i.WellFormed) : i.op.instr (encode i) = i := by
  cases i with
  | push imm8 => exact congrArg Instr.push BitVec.extractLsb'_append_eq_right
  | sets imm16 => exact congrArg Instr.sets BitVec.extractLsb'_append_eq_right
  | setq imm16 => exact congrArg Instr.setq BitVec.extractLsb'_append_eq_right
  | find k =>
    have hk : k < 4 := of_decide_eq_true h
    simp only [Instr.op, Op.instr, toNat_field, encode_find_toNat, Instr.find.injEq]
    omega
  | rdb idx =>
    have hidx : idx < 64 := of_decide_eq_true h
    simp only [Instr.op, Op.instr, toNat_field, encode_rdb_toNat, Instr.rdb.injEq]
    omega
  | rdg row col =>
    obtain ⟨hrow, hcol⟩ : row < 32 ∧ col < 32 := by simpa [Instr.WellFormed, Instr.wellFormed] using h
    simp only [Instr.op, Op.instr, toNat_field, encode_rdg_toNat, Instr.rdg.injEq]
    omega
  | rdr reg =>
    have hreg : reg < 16 := of_decide_eq_true h
    simp only [Instr.op, Op.instr, toNat_field, encode_rdr_toNat, Instr.rdr.injEq]
    omega
  | _ => rfl

/-! ### The mask and the fields -/

/-- The bits of the two fields of `RDG`, as numbers (R91). -/
theorem and_rdg_fields (n : Nat) : n &&& 0x1F1F = n / 2 ^ 8 % 2 ^ 5 * 2 ^ 8 + n % 2 ^ 5 := by
  have hrow : (n &&& 0x1F1F) / 2 ^ 8 = n / 2 ^ 8 % 2 ^ 5 := by
    rw [Nat.and_div_two_pow]; exact Nat.and_two_pow_sub_one_eq_mod _ 5
  have hcol : (n &&& 0x1F1F) % 2 ^ 8 = n % 2 ^ 8 % 2 ^ 5 := by
    rw [Nat.and_mod_two_pow]; exact Nat.and_two_pow_sub_one_eq_mod _ 5
  omega

/-- The word of the command an opcode reads from `w`: the opcode byte, and of `w` the bits the mask leaves open
(R91, R93). -/
theorem encode_instr_toNat (o : Op) (w : Word) :
    (encode (o.instr w)).toNat = o.code.toNat * 2 ^ 24 + (w.toNat &&& (~~~o.mask).toNat) := by
  have hlow (n : Nat) : w.toNat &&& (2 ^ n - 1) = w.toNat % 2 ^ n := Nat.and_two_pow_sub_one_eq_mod _ n
  cases o with
  | push =>
    show (encode (.push _)).toNat = 0x11 * 2 ^ 24 + (w.toNat &&& (2 ^ 8 - 1))
    rw [encode_push_toNat, toNat_field, hlow]; omega
  | find =>
    show (encode (.find _)).toNat = 0x21 * 2 ^ 24 + (w.toNat &&& (2 ^ 2 - 1))
    rw [encode_find_toNat, toNat_field, hlow]; omega
  | sets =>
    show (encode (.sets _)).toNat = 0x30 * 2 ^ 24 + (w.toNat &&& (2 ^ 16 - 1))
    rw [encode_sets_toNat, toNat_field, hlow]; omega
  | setq =>
    show (encode (.setq _)).toNat = 0x31 * 2 ^ 24 + (w.toNat &&& (2 ^ 16 - 1))
    rw [encode_setq_toNat, toNat_field, hlow]; omega
  | rdb =>
    show (encode (.rdb _)).toNat = 0x40 * 2 ^ 24 + (w.toNat &&& (2 ^ 6 - 1))
    rw [encode_rdb_toNat, toNat_field, hlow]; omega
  | rdg =>
    show (encode (.rdg _ _)).toNat = 0x41 * 2 ^ 24 + (w.toNat &&& 0x1F1F)
    rw [encode_rdg_toNat, toNat_field, toNat_field, and_rdg_fields]; omega
  | rdr =>
    show (encode (.rdr _)).toNat = 0x42 * 2 ^ 24 + (w.toNat &&& (2 ^ 4 - 1))
    rw [encode_rdr_toNat, toNat_field, hlow]; omega
  | _ =>
    show ((_ : Byte) ++ 0#24).toNat = _ + (w.toNat &&& 0)
    rw [toNat_bare, Nat.and_zero, Nat.add_zero]; rfl

/-- `encode_instr_toNat` on words: the sum does not overflow. -/
theorem encode_instr (o : Op) (w : Word) : encode (o.instr w) = o.matchWord + (w &&& ~~~o.mask) := by
  have hsum := encode_instr_toNat o w
  apply BitVec.eq_of_toNat_eq
  rw [BitVec.toNat_add, Op.matchWord, toNat_bare, BitVec.toNat_and, ← hsum]
  exact (Nat.mod_eq_of_lt (encode _).isLt).symm

/-- A word is the sum of its bits under a mask and the others. -/
theorem and_add_and_not (w m : Word) : (w &&& m) + (w &&& ~~~m) = w := by
  have hdisjoint : (w &&& m) &&& (w &&& ~~~m) = 0#32 := by
    ext k
    cases hm : m[k] <;> simp [hm]
  rw [BitVec.add_eq_or_of_and_eq_zero _ _ hdisjoint, ← BitVec.and_or_distrib_left, BitVec.or_not_self,
    BitVec.and_allOnes]

/-- A word meets its row of R93 exactly when it is the word of the command read from it: the mask fixes every bit
that no operand field carries (R91, R93). -/
theorem mask_match_iff (o : Op) (w : Word) : w &&& o.mask = o.matchWord ↔ encode (o.instr w) = w := by
  rw [encode_instr]
  constructor
  · intro hmatch
    rw [← hmatch, and_add_and_not]
  · intro hword
    exact add_right_cancel ((and_add_and_not w o.mask).trans hword.symm)

/-! ### The round trip -/

/-- Settles O1: the word of a command has its opcode and its operands, so it meets its row of R93. -/
theorem decodeOfEncodeGivesTheCommand : Obligations.DecodeOfEncodeGivesTheCommand := by
  intro i hwf
  have hinstr : i.op.instr (encode i) = i := instr_encode hwf
  have hmatch : encode i &&& i.op.mask = i.op.matchWord := (mask_match_iff _ _).mpr (congrArg encode hinstr)
  rw [decode_of_code (opByte_encode i), if_pos hmatch, hinstr]

/-- Settles O2: a word that meets its row of R93 is the word of the command read from it. -/
theorem encodeOfDecodeGivesTheWord : Obligations.EncodeOfDecodeGivesTheWord := by
  intro w i h
  obtain ⟨o, hmatch, rfl⟩ := eq_instr_of_decode h
  exact ⟨wellFormed_instr o w, (mask_match_iff o w).mp hmatch⟩

/-! ### The table of R93 -/

/-- The rows of R93 are the model's codes, matches and masks. -/
theorem r93_eq_map : r93 = Op.all.map fun o => (o, o.code.toNat, o.matchWord.toNat, o.mask.toNat) := rfl

theorem opByte_eq_code_iff {w : Word} {o : Op} : opByte w = o.code ↔ w.toNat / 2 ^ 24 = o.code.toNat := by
  rw [← BitVec.toNat_inj, opByte_toNat]

theorem mask_match_toNat_iff {w : Word} {o : Op} :
    w.toNat &&& o.mask.toNat = o.matchWord.toNat ↔ w &&& o.mask = o.matchWord := by
  rw [← BitVec.toNat_inj, BitVec.toNat_and]

/-- The fields as R91 takes them from the word's number are those the model takes from its bits. -/
theorem r91_eq_instr (o : Op) (w : Word) : r91 o w.toNat = o.instr w := by
  have hfield (n : Nat) : BitVec.ofNat n (w.toNat % 2 ^ n) = w.extractLsb' 0 n := by
    apply BitVec.eq_of_toNat_eq
    rw [toNat_field, BitVec.toNat_ofNat, Nat.mod_mod, Nat.pow_zero, Nat.div_one]
  cases o with
  | push => exact congrArg Instr.push (hfield 8)
  | sets => exact congrArg Instr.sets (hfield 16)
  | setq => exact congrArg Instr.setq (hfield 16)
  | find | rdb | rdg | rdr => simp only [r91, Op.instr, toNat_field, Nat.pow_zero, Nat.div_one]; rfl
  | _ => rfl

/-- Settles O3: the model's rows are those of R93. -/
theorem decodeFollowsTheOpcodeTable : Obligations.DecodeFollowsTheOpcodeTable := by
  intro w
  rw [r93_eq_map]
  refine ⟨fun hnone => decode_of_unassigned fun o ho => ?_, fun row hrow hcode => ?_⟩
  · exact hnone _ (List.mem_map_of_mem o.mem_all) (opByte_eq_code_iff.mp ho.symm)
  · obtain ⟨o, _, rfl⟩ := List.mem_map.mp hrow
    rw [decode_of_code (opByte_eq_code_iff.mpr hcode), r91_eq_instr]
    exact if_congr mask_match_toNat_iff.symm rfl rfl

end Sys2Proof
end

section
/-! PROOFS. Words the spec writes out, and the refusal of an illegal word. -/

namespace Sys2Proof.Machine

/-- Settles O4: nine closed words, decoded one by one. -/
theorem writtenOutWordsDecode : Obligations.WrittenOutWordsDecode := by
  refine ⟨?_, ?_, ?_, ?_, ?_, ?_, ?_, ?_, ?_⟩ <;> decide

/-- The response refusing a word, as the sum of its fields: its `echo` is the word's top byte (R97, R182). -/
theorem refusalWord_opByte_eq_ofNat (c : RefusalCode) (w : Word) :
    refusalWord c (opByte w) =
      BitVec.ofNat 32 (2 ^ 31 + (refusalBits c).toNat * 2 ^ 24 + w.toNat / 2 ^ 24 * 2 ^ 16) := by
  have hw := w.isLt
  have hcode := (refusalBits c).isLt
  apply BitVec.eq_of_toNat_eq
  rw [refusalWord, responseWord_toNat, opByte_toNat]
  simp only [Bool.toNat_true, BitVec.toNat_ofNat]
  omega

/-- The step on an illegal word, every field it changes written out (R95, R181). -/
theorem step_illegal_fields {s : State} {w : Word} {rest : List HostInput} {c : RefusalCode}
    (hin : s.inputs = .command w :: rest) (hdec : decode w = .illegal c) :
    step s = .next { s with
      inputs := rest, index := s.index + 1, err := true, lasterr := refusalBits c
      rspOut := s.rspOut ++
        [BitVec.ofNat 32 (2 ^ 31 + (refusalBits c).toNat * 2 ^ 24 + w.toNat / 2 ^ 24 * 2 ^ 16)] } := by
  rw [step_illegal hin hdec, ← refusalWord_opByte_eq_ofNat]; rfl

/-- Settles O6: `step_illegal_fields` at the codes 1 and 2. -/
theorem stepRefusesAnIllegalWord : Obligations.StepRefusesAnIllegalWord :=
  fun _ _ _ hin => ⟨fun hdec => step_illegal_fields hin hdec, fun hdec => step_illegal_fields hin hdec⟩

end Sys2Proof.Machine
end

section
/-! PROOFS. The structure commands run in order, and the structural grid against R135's picture. -/

namespace Sys2Proof.Machine

open Sys2Proof.Spec

/-! ### The commands -/

theorem exec_gclr (s : State) :
    exec .gclr s = .next ({ s with grid := Grid.allLight }.respond Op.gclr.code 0#16) := rfl

theorem exec_find_some {k : Nat} {anchor : Nat × Nat} (s : State) (h : findAnchor k = some anchor) :
    exec (.find k) s = .next ({ s with grid := s.grid.placeFinder anchor }.respond Op.find.code 0#16) := by
  show execFind k s = _
  rw [execFind, h]

theorem exec_time (s : State) :
    exec .time s = .next ({ s with grid := s.grid.placeTiming }.respond Op.time.code 0#16) := rfl

/-- `STRUCT` runs to its end and leaves the structural grid, whatever the grid was (R99, R135). -/
theorem runCommands_struct (s : State) :
    ∃ t, runCommands Pseudo.struct.expand s = .next t ∧ t.grid = Grid.structural := by
  have sel0 : findAnchor 0 = some (0, 0) := rfl
  have sel1 : findAnchor 1 = some (0, 18) := rfl
  have sel2 : findAnchor 2 = some (18, 0) := rfl
  simp only [Pseudo.expand, runCommands_cons, runCommands_nil]
  refine ⟨_, ⟨_, exec_gclr s, _, exec_find_some _ sel0, _, exec_find_some _ sel1, _, exec_find_some _ sel2, _,
    exec_time _, rfl⟩, ?_⟩
  simp only [State.respond_grid, Grid.structural]

/-! ### The picture -/

/-- The structural grid, one closed value, cell by cell against the picture (R135). -/
theorem cell_structural : ∀ r < 25, ∀ c < 25, Grid.structural.cell r c = structural r c := by
  decide +kernel

/-- A grid has as many DARK cells as the picture it shows. -/
theorem Grid.darkCount_eq_of_cell {g : Grid} {f : Nat → Nat → GridModule}
    (h : ∀ r < 25, ∀ c < 25, g.cell r c = f r c) :
    g.darkCount = ((List.range 25).map fun r => (List.range 25).countP fun c => f r c == .dark).sum := by
  refine congrArg List.sum (List.map_congr_left fun r hr => List.countP_congr fun c hc => ?_)
  rw [h r (List.mem_range.mp hr) c (List.mem_range.mp hc)]

/-- Settles O23: `STRUCT` leaves one fixed grid, which shows R135's picture. -/
theorem structGivesTheStructuralGrid : Obligations.StructGivesTheStructuralGrid := by
  intro s
  obtain ⟨t, hrun, hgrid⟩ := runCommands_struct s
  refine ⟨t, hrun, fun r c hr hc => ?_, ?_⟩
  · rw [State.cell, hgrid, cell_structural r hr c hc]
  · rw [hgrid, Grid.darkCount_eq_of_cell cell_structural]
    decide

end Sys2Proof.Machine
end

section
/-! PROOFS. The Payload Packer: what `PUSH` and `PAD` write, and the text the packing sequence leaves in the buffer. -/

namespace Sys2Proof.Machine

/-! ### One appended byte -/

/-- Appending writes the byte at index `BLEN` and no other byte (R121, R123). -/
theorem State.append_byte {s : State} (room : s.blen.toNat < 44) (v : Byte) (i : Nat) :
    (s.append v).byte i = if i = s.blen.toNat then v else s.byte i := by
  rw [State.byte, State.append_buf, Buf.byte_setByte]
  simp only [room, and_true, eq_comm]

theorem exec_push_stored {s : State} (room : s.blen.toNat < 44) (v : Byte) :
    exec (.push v) s = .next ((s.append v).respond Op.push.code 0#16) := by
  rw [exec_push, if_pos room]

theorem exec_push_dropped {s : State} (noRoom : 44 ≤ s.blen.toNat) (v : Byte) :
    exec (.push v) s = .next (s.respond Op.push.code 0#16) := by
  rw [exec_push, if_neg (Nat.not_lt.mpr noRoom)]

/-! ### The bytes `PAD` writes -/

/-- The loop of `PAD` byte by byte: the parity of the distance from the first `BLEN` picks the filler (R123). A full
round appends two bytes, so it keeps that parity for the rounds after it. -/
theorem State.padLoop_byte {fuel : Nat} {s : State} (hle : s.blen.toNat ≤ 44) (hfuel : 44 ≤ s.blen.toNat + fuel)
    {i : Nat} (hi : i < 44) :
    (s.padLoop fuel).byte i =
      if i < s.blen.toNat then s.byte i else if (i - s.blen.toNat) % 2 = 0 then Config.fill0 else Config.fill1 := by
  induction fuel generalizing s with
  | zero => rw [State.padLoop, if_pos (by omega)]
  | succ fuel ih =>
    by_cases room : s.blen.toNat < 44
    · have hone := State.append_blen_toNat room Config.fill0
      have hbyte := State.append_byte room Config.fill0 i
      by_cases filled : (s.append Config.fill0).blen.toNat = 44
      · simp only [State.padLoop, Config.capacity, if_pos room, if_pos filled, hbyte]
        grind
      · have hroom : (s.append Config.fill0).blen.toNat < 44 := by omega
        have htwo := State.append_blen_toNat hroom Config.fill1
        simp only [State.padLoop, Config.capacity, if_pos room, if_neg filled]
        rw [ih (by omega) (by omega), State.append_byte hroom, hbyte]
        grind
    · simp only [State.padLoop, Config.capacity, if_neg room]
      rw [if_pos (by omega)]

/-! ### What the packing commands leave alone -/

/-- `t` is `s` but for `BUF`, `BLEN` and the responses `rsps`. -/
def State.Packs (s : State) (rsps : List Word) (t : State) : Prop :=
  t = { s with buf := t.buf, blen := t.blen, rspOut := s.rspOut ++ rsps }

theorem State.Packs.refl (s : State) : s.Packs [] s := by
  rw [State.Packs, List.append_nil]

theorem State.Packs.trans {s t u : State} {rs rs' : List Word} (h : s.Packs rs t) (h' : t.Packs rs' u) :
    s.Packs (rs ++ rs') u := by
  refine Eq.trans h' ?_
  rw [h, List.append_assoc]

/-! ### `PCLR`, `PUSH` and `PAD` -/

/-- Settles O14. -/
theorem pclrEmptiesTheBuffer : Obligations.PclrEmptiesTheBuffer := by
  intro s
  have hword : successWord Op.pclr.code 0#16 = 0x00100000#32 := by decide
  rw [exec_pclr, State.respond, hword]

/-- Settles O15. -/
theorem pushAppendsOrDrops : Obligations.PushAppendsOrDrops := by
  intro s imm8
  have hword : successWord Op.push.code 0#16 = 0x00110000#32 := by decide
  constructor
  · intro room
    refine ⟨_, exec_push_stored room imm8, State.append_blen_toNat room imm8,
      fun i _ => State.append_byte room imm8 i, ?_⟩
    rw [State.respond, hword]; rfl
  · intro noRoom
    rw [exec_push_dropped noRoom, State.respond, hword]

/-- Settles O16. -/
theorem padFillsAlternating : Obligations.PadFillsAlternating := by
  intro s hle
  have hword : successWord Op.pad.code 0#16 = 0x00120000#32 := by decide
  have hfuel : 44 ≤ s.blen.toNat + 44 := Nat.le_add_left ..
  obtain ⟨b, n, hframe, -⟩ := s.padLoop_frame 44
  refine ⟨_, exec_pad s, State.padLoop_blen hle hfuel, fun i hi => State.padLoop_byte hle hfuel hi, ?_⟩
  rw [State.respond, hword, hframe]

/-! ### The packing sequence -/

/-- The valid bytes are `text`, or as much of its beginning as the buffer has room for. -/
structure State.HoldsText (s : State) (text : List Byte) : Prop where
  blen : s.blen.toNat = min 44 text.length
  byte : ∀ i, i < s.blen.toNat → text[i]? = some (s.byte i)

/-- One `PUSH` makes the text one byte longer, stored or dropped (R121, R122). -/
theorem State.HoldsText.push {s : State} {text : List Byte} (h : s.HoldsText text) (v : Byte) :
    ∃ t, exec (.push v) s = .next t ∧ t.HoldsText (text ++ [v]) ∧ s.Packs [0x00110000#32] t := by
  have hlen := h.blen
  have hlen' : (text ++ [v]).length = text.length + 1 := List.length_append
  by_cases room : s.blen.toNat < 44
  · obtain ⟨t, hexec, hblen, hbyte, hframe⟩ := (pushAppendsOrDrops s v).1 room
    refine ⟨t, hexec, ⟨by omega, fun i hi => ?_⟩, hframe⟩
    have hend : s.blen.toNat = text.length := by omega
    rw [hbyte i (by omega)]
    by_cases hlast : i = s.blen.toNat
    · rw [if_pos hlast, hlast, hend, List.getElem?_concat_length]
    · rw [if_neg hlast, List.getElem?_append_left (by omega), h.byte i (by omega)]
  · refine ⟨_, (pushAppendsOrDrops s v).2 (by omega), ⟨?_, fun i hi => ?_⟩, rfl⟩
    · show s.blen.toNat = _
      omega
    · replace hi : i < s.blen.toNat := hi
      rw [List.getElem?_append_left (by omega), h.byte i hi]

/-- Pushing byte after byte: every byte answers the same response, and the text grows by all of them. -/
theorem State.HoldsText.pushes {s : State} {text : List Byte} (h : s.HoldsText text) (more : List Byte) :
    ∃ t, runCommands (more.map .push) s = .next t ∧ t.HoldsText (text ++ more) ∧
      s.Packs (List.replicate more.length 0x00110000#32) t := by
  induction more generalizing s text with
  | nil => exact ⟨s, rfl, by rwa [List.append_nil], State.Packs.refl s⟩
  | cons v more ih =>
    obtain ⟨u, hpush, hu, hframe⟩ := h.push v
    obtain ⟨t, hrun, ht, hframe'⟩ := ih hu
    refine ⟨t, runCommands_cons.mpr ⟨u, hpush, hrun⟩, ?_, hframe.trans hframe'⟩
    rwa [List.append_assoc] at ht

/-- Settles O17: `PCLR` leaves the empty text, the `PUSH`es make it the whole text, and `PAD` fills the rest. -/
theorem packingSequenceFillsTheBuffer : Obligations.PackingSequenceFillsTheBuffer := by
  intro s text
  have hempty : State.HoldsText { s with blen := 0#6, rspOut := s.rspOut ++ [0x00100000#32] } [] :=
    ⟨rfl, fun _ hi => absurd hi (Nat.not_lt_zero _)⟩
  have hclear : s.Packs [0x00100000#32] { s with blen := 0#6, rspOut := s.rspOut ++ [0x00100000#32] } := rfl
  obtain ⟨u, hpush, htext, hpushed⟩ := hempty.pushes text
  have hlen := htext.blen
  rw [List.nil_append] at hlen
  obtain ⟨t, hpad, hblen, hbyte, hpadded⟩ := padFillsAlternating u (by omega)
  refine ⟨t, ?_, hblen, fun i hi => ?_, (hclear.trans hpushed).trans hpadded⟩
  · simp only [Pseudo.expand, runCommands_cons, runCommands_append, runCommands_nil]
    exact ⟨_, pclrEmptiesTheBuffer s, u, hpush, t, hpad, rfl⟩
  · rw [hbyte i hi]
    by_cases hin : i < text.length
    · have hget := htext.byte i (by omega)
      rw [List.nil_append, List.getElem?_eq_getElem hin] at hget
      rw [if_pos (by omega), dif_pos hin, Option.some.inj hget]
    · have hend : u.blen.toNat = text.length := by omega
      rw [if_neg (by omega), dif_neg hin, hend]

end Sys2Proof.Machine
end

section
/-! PROOFS. The structure commands cell by cell: the cells each writes, what it writes there, and why they commute. -/

namespace Sys2Proof.Machine

open Sys2Proof.Spec

/-! ### Writes that draw part of a picture -/

/-- When a list of writes names exactly the cells of a region, each with the module a picture shows there, the order
of the writes does not matter: the region holds the picture and every other cell is as before. -/
theorem Grid.cell_writeCells_of_picture {ws : List ((Nat × Nat) × GridModule)} {region : Nat → Nat → Prop}
    [∀ r c, Decidable (region r c)] {picture : Nat → Nat → GridModule} {r c : Nat} (hr : r < 25) (hc : c < 25)
    (hws : ∀ v, ((r, c), v) ∈ ws ↔ region r c ∧ v = picture r c) (g : Grid) :
    (g.writeCells ws).cell r c = if region r c then picture r c else g.cell r c := by
  rw [Grid.cell_writeCells ws g hr hc]
  cases hfind : ws.reverse.find? fun w => w.1 == (r, c) with
  | some w =>
    obtain ⟨rc, v⟩ := w
    have hrc : rc = (r, c) := by simpa using List.find?_some hfind
    have hmem : ((r, c), v) ∈ ws := by simpa [hrc] using List.mem_of_find?_eq_some hfind
    obtain ⟨hin, rfl⟩ := (hws v).mp hmem
    rw [if_pos hin]; rfl
  | none =>
    have hout : ¬ region r c := fun hin => by
      simpa using List.find?_eq_none.mp hfind _ (List.mem_reverse.mpr ((hws _).mpr ⟨hin, rfl⟩))
    rw [if_neg hout]; rfl

/-! ### `FIND` -/

/-- The cell `(r, c)` lies at offsets `-1 .. 7` from the anchor in both directions (R131). -/
abbrev InFinder (a : Nat × Nat) (r c : Nat) : Prop := a.1 ≤ r + 1 ∧ r ≤ a.1 + 7 ∧ a.2 ≤ c + 1 ∧ c ≤ a.2 + 7

/-- R132's picture laid at an anchor. -/
def finderPicture (a : Nat × Nat) (r c : Nat) : GridModule :=
  if finderDark (r + 1 - a.1) (c + 1 - a.2) then .dark else .light

theorem mem_finderOffsets {i : Int} : i ∈ finderOffsets ↔ -1 ≤ i ∧ i ≤ 7 := by
  have hlist : finderOffsets = [-1, 0, 1, 2, 3, 4, 5, 6, 7] := rfl
  simp only [hlist, List.mem_cons, List.not_mem_nil, or_false]
  omega

/-- The predicate of R131 draws the picture of R132. -/
theorem finderModule_eq_finderDark :
    ∀ i : Nat, i < 9 → ∀ j : Nat, j < 9 →
      finderModule ((i : Int) - 1) ((j : Int) - 1) = if finderDark i j then .dark else .light := by
  decide

/-- The same at the cell `(r, c)` of a finder at the anchor `a`. -/
theorem finderModule_eq_finderPicture {a : Nat × Nat} {r c : Nat} (h : InFinder a r c) :
    finderModule ((r : Int) - a.1) ((c : Int) - a.2) = finderPicture a r c := by
  obtain ⟨hr, hr', hc, hc'⟩ := h
  rw [finderPicture, ← finderModule_eq_finderDark _ (by omega) _ (by omega)]
  congr 1 <;> omega

/-- `FIND` writes the offsets `-1 .. 7` that fall inside the grid, and nothing else (R131). -/
theorem mem_finderWrites {a : Nat × Nat} {r c : Nat} (hr : r < 25) (hc : c < 25) (v : GridModule) :
    ((r, c), v) ∈ finderWrites a.1 a.2 ↔ InFinder a r c ∧ v = finderPicture a r c := by
  simp only [finderWrites, List.mem_flatMap, List.mem_filterMap, mem_finderOffsets]
  constructor
  · rintro ⟨i, hi, j, hj, hw⟩
    split at hw
    next => cases hw
    next hin =>
      simp only [Option.some.injEq, Prod.mk.injEq] at hw
      obtain ⟨⟨hri, hcj⟩, rfl⟩ := hw
      have hfoot : InFinder a r c := by omega
      refine ⟨hfoot, ?_⟩
      rw [← finderModule_eq_finderPicture hfoot]
      congr 1 <;> omega
  · rintro ⟨hfoot, rfl⟩
    refine ⟨(r : Int) - a.1, by omega, (c : Int) - a.2, by omega, ?_⟩
    rw [if_neg (by omega), finderModule_eq_finderPicture hfoot]
    simp

/-- The grid after `FIND`, cell by cell, at any anchor. -/
theorem Grid.cell_placeFinder (g : Grid) (a : Nat × Nat) {r c : Nat} (hr : r < 25) (hc : c < 25) :
    (g.placeFinder a).cell r c = if InFinder a r c then finderPicture a r c else g.cell r c :=
  Grid.cell_writeCells_of_picture hr hc (mem_finderWrites hr hc) g

/-- The model's anchors are those of R131. -/
theorem findAnchor_eq_anchor : ∀ k < 3, findAnchor k = some (anchor k) := by
  decide

theorem exec_find_none {k : Nat} (s : State) (h : findAnchor k = none) :
    exec (.find k) s = .next (s.refuse Op.find.code .eRange) := by
  show execFind k s = _
  rw [execFind, h]

/-- Settles O19: the writes of `FIND` draw R132's picture on the footprint. -/
theorem findPlacesTheFinder : Obligations.FindPlacesTheFinder := by
  intro s k hk
  have hword : successWord Op.find.code 0#16 = 0x00210000#32 := by decide
  refine ⟨_, exec_find_some s (findAnchor_eq_anchor k hk), fun r c hr hc => ?_, ?_⟩
  · exact Grid.cell_placeFinder s.grid (anchor k) hr hc
  · rw [State.respond, hword]

/-- Settles O20. -/
theorem findThreeIsRefused : Obligations.FindThreeIsRefused := by
  intro s
  have hword : refusalWord .eRange Op.find.code = 0x83210000#32 := by decide
  rw [exec_find_none s rfl, State.refuse, hword]; rfl

/-! ### `GCLR` and `TIME` -/

/-- Settles O18. -/
theorem gclrClearsTheGrid : Obligations.GclrClearsTheGrid := by
  intro s
  have hword : successWord Op.gclr.code 0#16 = 0x00200000#32 := by decide
  refine ⟨_, exec_gclr s, fun r c _ _ => Grid.cell_allLight r c, ?_⟩
  rw [State.respond, hword]

/-- The 18 cells of the two timing lines (R134). -/
abbrev InTiming (r c : Nat) : Prop := (r = 6 ∧ 8 ≤ c ∧ c ≤ 16) ∨ (c = 6 ∧ 8 ≤ r ∧ r ≤ 16)

/-- The timing pattern: the index along the line picks the module (R134). -/
def timingPicture (r c : Nat) : GridModule :=
  if (if r = 6 then c else r) % 2 = 0 then .dark else .light

theorem timingPicture_row (c : Nat) : timingPicture 6 c = if c % 2 = 0 then .dark else .light := rfl

theorem timingPicture_col {r : Nat} (hr : 8 ≤ r) : timingPicture r 6 = if r % 2 = 0 then .dark else .light := by
  have hne : r ≠ 6 := by omega
  rw [timingPicture, if_neg hne]

/-- `TIME` writes the 18 timing cells, and nothing else (R134). -/
theorem mem_timingWrites {r c : Nat} (v : GridModule) :
    ((r, c), v) ∈ timingWrites ↔ InTiming r c ∧ v = timingPicture r c := by
  simp only [timingWrites, List.mem_flatMap, List.mem_range'_1, List.mem_cons, List.not_mem_nil, or_false,
    Prod.mk.injEq, Config.timingLine, Config.timingLo, Config.timingHi]
  constructor
  · rintro ⟨i, hi, ⟨⟨rfl, rfl⟩, rfl⟩ | ⟨⟨rfl, rfl⟩, rfl⟩⟩
    · exact ⟨.inl ⟨rfl, by omega⟩, rfl⟩
    · exact ⟨.inr ⟨rfl, by omega⟩, (timingPicture_col (by omega)).symm⟩
  · rintro ⟨⟨rfl, hc⟩ | ⟨rfl, hr⟩, rfl⟩
    · exact ⟨c, by omega, .inl ⟨⟨rfl, rfl⟩, rfl⟩⟩
    · exact ⟨r, by omega, .inr ⟨⟨rfl, rfl⟩, timingPicture_col (by omega)⟩⟩

/-- The grid after `TIME`, cell by cell. -/
theorem Grid.cell_placeTiming (g : Grid) {r c : Nat} (hr : r < 25) (hc : c < 25) :
    g.placeTiming.cell r c = if InTiming r c then timingPicture r c else g.cell r c :=
  Grid.cell_writeCells_of_picture hr hc mem_timingWrites g

/-- Settles O21: the writes of `TIME` draw the timing pattern on the two lines. -/
theorem timePlacesTheTimingLines : Obligations.TimePlacesTheTimingLines := by
  intro s
  have hword : successWord Op.time.code 0#16 = 0x00220000#32 := by decide
  refine ⟨_, exec_time s, fun r c hr hc => ?_, ?_⟩
  · refine (Grid.cell_placeTiming s.grid hr hc).trans ?_
    by_cases hrow : r = 6 ∧ 8 ≤ c ∧ c ≤ 16
    · have ⟨hr6, _⟩ := hrow
      subst hr6
      rw [if_pos (.inl hrow), if_pos hrow, timingPicture_row]
    · by_cases hcol : c = 6 ∧ 8 ≤ r ∧ r ≤ 16
      · have ⟨hc6, hlo, _⟩ := hcol
        subst hc6
        rw [if_pos (.inr hcol), if_neg hrow, if_pos hcol, timingPicture_col hlo]
      · rw [if_neg (not_or.mpr ⟨hrow, hcol⟩), if_neg hrow, if_neg hcol]
  · rw [State.respond, hword]

/-! ### Commuting

The footprints are disjoint (R133), so each command draws its part of one picture, that of R135. -/

/-- The command `i` draws the part of R135's picture that lies in `region`, and writes no other cell. -/
def Draws (i : Instr) (region : Nat → Nat → Prop) : Prop :=
  ∀ s : State, ∃ t, exec i s = .next t ∧ ∀ r c, r < 25 → c < 25 →
    (region r c → t.cell r c = structural r c) ∧ (¬ region r c → t.cell r c = s.cell r c)

/-- Two commands that draw parts of one picture commute. -/
theorem Draws.commute {i j : Instr} {D E : Nat → Nat → Prop} (hi : Draws i D) (hj : Draws j E) (s : State) :
    ∃ t u, runCommands [i, j] s = .next t ∧ runCommands [j, i] s = .next u ∧ t.grid = u.grid := by
  obtain ⟨si, hsi, hDi⟩ := hi s
  obtain ⟨t, ht, hEt⟩ := hj si
  obtain ⟨sj, hsj, hEj⟩ := hj s
  obtain ⟨u, hu, hDu⟩ := hi sj
  simp only [runCommands_cons, runCommands_nil]
  refine ⟨t, u, ⟨si, hsi, t, ht, rfl⟩, ⟨sj, hsj, u, hu, rfl⟩, Grid.ext_cell fun r c hr hc => ?_⟩
  obtain ⟨hDi, hDi'⟩ := hDi r c hr hc
  obtain ⟨hEt, hEt'⟩ := hEt r c hr hc
  obtain ⟨hEj, hEj'⟩ := hEj r c hr hc
  obtain ⟨hDu, hDu'⟩ := hDu r c hr hc
  show t.cell r c = u.cell r c
  by_cases hD : D r c <;> by_cases hE : E r c
  · rw [hEt hE, hDu hD]
  · rw [hEt' hE, hDi hD, hDu hD]
  · rw [hEt hE, hDu' hD, hEj hE]
  · rw [hEt' hE, hDi' hD, hDu' hD, hEj' hE]

/-- On its footprint, each finder is R135's picture. -/
theorem finderPicture_eq_structural : ∀ k < 3, ∀ r < 25, ∀ c < 25, InFinder (anchor k) r c →
    finderPicture (anchor k) r c = structural r c := by
  decide +kernel

/-- On the timing lines, the timing pattern is R135's picture. -/
theorem timingPicture_eq_structural : ∀ r < 25, ∀ c < 25, InTiming r c → timingPicture r c = structural r c := by
  decide +kernel

theorem draws_find {k : Nat} (hk : k < 3) : Draws (.find k) (InFinder (anchor k)) := fun s =>
  ⟨_, exec_find_some s (findAnchor_eq_anchor k hk), fun r c hr hc =>
    have hcell := Grid.cell_placeFinder s.grid (anchor k) hr hc
    ⟨fun hin => hcell.trans ((if_pos hin).trans (finderPicture_eq_structural k hk r hr c hc hin)),
      fun hout => hcell.trans (if_neg hout)⟩⟩

theorem draws_time : Draws .time InTiming := fun s =>
  ⟨_, exec_time s, fun r c hr hc =>
    have hcell := Grid.cell_placeTiming s.grid hr hc
    ⟨fun hin => hcell.trans ((if_pos hin).trans (timingPicture_eq_structural r hr c hc hin)),
      fun hout => hcell.trans (if_neg hout)⟩⟩

/-- The four structure commands each draw a part of R135's picture. -/
theorem structureCommand_draws {i : Instr} (h : i ∈ [Instr.find 0, .find 1, .find 2, .time]) :
    ∃ region, Draws i region := by
  simp only [List.mem_cons, List.not_mem_nil, or_false] at h
  rcases h with rfl | rfl | rfl | rfl
  · exact ⟨_, draws_find (by decide)⟩
  · exact ⟨_, draws_find (by decide)⟩
  · exact ⟨_, draws_find (by decide)⟩
  · exact ⟨_, draws_time⟩

/-- Settles O22: all four draw parts of one picture. -/
theorem structureCommandsCommute : Obligations.StructureCommandsCommute := by
  intro s i hi j hj
  obtain ⟨D, hD⟩ := structureCommand_draws hi
  obtain ⟨E, hE⟩ := structureCommand_draws hj
  exact hD.commute hE s

end Sys2Proof.Machine
end

section
/-! PROOFS. What the data scan never writes: reserved cells, and the cells it meets with no bit left. -/

namespace Sys2Proof.Machine

open Sys2Proof.Spec

/-! ### Reserved cells -/

/-- The reserved test reads its own cell only (R142). -/
theorem Grid.reserved_congr {g h : Grid} {r c : Nat} (e : g.cell r c = h.cell r c) : g.reserved r c = h.reserved r c := by
  rw [Grid.reserved, Grid.reserved, e]

theorem Grid.reserved_iff {g : Grid} {r c : Nat} : g.reserved r c = true ↔ g.cell r c = .dark ∨ r = 6 ∨ c = 6 := by
  simp [Grid.reserved, or_assoc]

/-- A visit writes no cell that is reserved before it. -/
theorem scanVisit_cell_of_reserved (b : Buf) {st : Grid × Nat} (rc : Nat × Nat) {r c : Nat}
    (h : st.1.reserved r c = true) : (scanVisit b st rc).1.cell r c = st.1.cell r c := by
  by_cases hrc : rc = (r, c)
  · rcases scanVisit_cases b st rc with ⟨e, -⟩ | ⟨hfree, -, -⟩
    · rw [e]
    · rw [hrc, h] at hfree
      cases hfree
  · exact scanVisit_cell_ne b st hrc

theorem foldl_scanVisit_cell_of_reserved (b : Buf) (cells : List (Nat × Nat)) {st : Grid × Nat} {r c : Nat}
    (h : st.1.reserved r c = true) : (cells.foldl (scanVisit b) st).1.cell r c = st.1.cell r c := by
  induction cells generalizing st with
  | nil => rfl
  | cons rc cells ih =>
    have hcell := scanVisit_cell_of_reserved b rc h
    rw [List.foldl_cons, ih ((Grid.reserved_congr hcell).trans h), hcell]

/-- A cell that is reserved before the scan is as before after it (R142 a, b). -/
theorem scan_cell_of_reserved {b : Buf} {g : Grid} {left : Grid × Nat} (hscan : scan b g = left) {r c : Nat}
    (h : g.reserved r c = true) : left.1.cell r c = g.cell r c := by
  subst hscan
  unfold scan
  exact foldl_scanVisit_cell_of_reserved b scanOrder h

/-! ### No cell is visited twice -/

/-- The cells of a column pair: rows 0 to 24 of its two columns (R141). -/
theorem mem_pairCells {pair : Int × Bool} {r c : Nat} :
    (r, c) ∈ pairCells pair ↔ r < 25 ∧ (c = pair.1.toNat ∨ c = (pair.1 - 1).toNat) := by
  simp only [pairCells, List.mem_flatMap, List.mem_range, List.mem_cons, List.not_mem_nil, or_false, Prod.mk.injEq]
  constructor
  · rintro ⟨i, hi, h⟩
    split at h <;> omega
  · rintro ⟨hr, hc⟩
    refine ⟨if pair.2 then 24 - r else r, ?_⟩
    split <;> omega

theorem nodup_pairCells {pair : Int × Bool} (h : 0 < pair.1) : (pairCells pair).Nodup := by
  refine List.nodup_flatMap.mpr ⟨fun i _ => ?_, List.nodup_range.imp_of_mem fun {i j} hi hj hne => ?_⟩
  · have hcols : pair.1.toNat ≠ pair.1.toNat - 1 := by omega
    simp [hcols]
  · rw [List.mem_range] at hi hj
    have hrows : (if pair.2 then 24 - j else j) ≠ (if pair.2 then 24 - i else i) := by split <;> omega
    simp [Function.onFun, hrows]

/-- The scan visits no cell twice: its column pairs share no column (R144). -/
theorem nodup_scanOrder : scanOrder.Nodup := by
  have hpos : ∀ p ∈ scanPairs 25 24 true, 0 < p.1 := by decide
  have hapart : (scanPairs 25 24 true).Pairwise fun p q => q.1 + 2 ≤ p.1 := by decide
  refine List.nodup_flatMap.mpr ⟨fun p hp => nodup_pairCells (hpos p hp), ?_⟩
  refine hapart.imp_of_mem fun {p q} hp hq hle => ?_
  rintro ⟨r, c⟩ hrc hrc'
  have := hpos q hq
  rw [mem_pairCells] at hrc hrc'
  omega

/-! ### Cells the scan does not reach -/

/-- Visits leave a cell they do not name as it was. -/
theorem foldl_scanVisit_cell_of_notMem (b : Buf) {cells : List (Nat × Nat)} (st : Grid × Nat) {r c : Nat}
    (h : (r, c) ∉ cells) : (cells.foldl (scanVisit b) st).1.cell r c = st.1.cell r c := by
  induction cells generalizing st with
  | nil => rfl
  | cons rc cells ih =>
    rw [List.mem_cons, not_or] at h
    obtain ⟨hne, hrest⟩ := h
    rw [List.foldl_cons, ih _ hrest, scanVisit_cell_ne b st (Ne.symm hne)]

/-- With all 352 bits placed, the visits left change nothing (R141). -/
theorem foldl_scanVisit_of_full (b : Buf) (cells : List (Nat × Nat)) {st : Grid × Nat} (h : 352 ≤ st.2) :
    cells.foldl (scanVisit b) st = st := by
  induction cells with
  | nil => rfl
  | cons rc cells ih =>
    rcases scanVisit_cases b st rc with ⟨e, -⟩ | ⟨-, hroom, -⟩
    · rw [List.foldl_cons, e, ih]
    · omega

/-- Visits of pairwise different cells place one bit for each cell that is free at the start, up to the 352nd: no
visit changes whether a later cell is free (R142, R145). -/
theorem foldl_scanVisit_cursor (b : Buf) {cells : List (Nat × Nat)} (hnodup : cells.Nodup) {st : Grid × Nat}
    (h : st.2 ≤ 352) :
    (cells.foldl (scanVisit b) st).2 = min 352 (st.2 + cells.countP fun rc => !st.1.reserved rc.1 rc.2) := by
  induction cells generalizing st with
  | nil => exact (Nat.min_eq_right h).symm
  | cons rc cells ih =>
    obtain ⟨hnew, hnodup⟩ := List.nodup_cons.mp hnodup
    rw [List.foldl_cons, List.countP_cons]
    rcases scanVisit_cases b st rc with ⟨e, hskip | hfull⟩ | ⟨hfree, hroom, e⟩
    · rw [e, ih hnodup h]
      simp [hskip]
    · rw [e, foldl_scanVisit_of_full b cells hfull]
      omega
    · have hlater : (cells.countP fun x => !(scanVisit b st rc).1.reserved x.1 x.2)
          = cells.countP fun x => !st.1.reserved x.1 x.2 := by
        refine List.countP_congr fun x hx => ?_
        have hne : rc ≠ (x.1, x.2) := fun e => hnew (e ▸ hx)
        rw [Grid.reserved_congr (scanVisit_cell_ne b st hne)]
      have hcursor : (scanVisit b st rc).2 = st.2 + 1 := by rw [e]
      rw [ih hnodup (by omega), hlater, hcursor]
      simp only [hfree, Bool.not_false, if_true]
      omega

/-- On the structural grid the first eight column pairs have room for all 352 bits (R147). -/
theorem free_scanOrder_take :
    352 ≤ (scanOrder.take 400).countP fun rc => !Grid.structural.reserved rc.1 rc.2 := by
  decide +kernel

/-- A scan that finds 352 free cells among its first `n` visits ends there: it writes no other cell. -/
theorem scan_cell_of_notMem_take {b : Buf} {g : Grid} {left : Grid × Nat} (hscan : scan b g = left) {n : Nat}
    (hfree : 352 ≤ (scanOrder.take n).countP fun rc => !g.reserved rc.1 rc.2) {r c : Nat}
    (h : (r, c) ∉ scanOrder.take n) : left.1.cell r c = g.cell r c := by
  have hfull : 352 ≤ ((scanOrder.take n).foldl (scanVisit b) (g, 0)).2 := by
    rw [foldl_scanVisit_cursor b (nodup_scanOrder.sublist (List.take_sublist ..)) (Nat.zero_le _)]
    exact le_min le_rfl (hfree.trans (Nat.le_add_left ..))
  have hstop : scanOrder.foldl (scanVisit b) (g, 0) = (scanOrder.take n).foldl (scanVisit b) (g, 0) := by
    conv_lhs => rw [← List.take_append_drop n scanOrder, List.foldl_append]
    exact foldl_scanVisit_of_full b _ hfull
  subst hscan
  unfold scan
  rw [hstop, foldl_scanVisit_cell_of_notMem b _ h]

/-! ### `BUILD` -/

/-- The timing lines of R135's picture alternate from DARK at index 8 (R134). -/
theorem structural_timing : ∀ i < 17, 8 ≤ i →
    (structural 6 i = .dark ↔ i % 2 = 0) ∧ (structural i 6 = .dark ↔ i % 2 = 0) := by
  decide

/-- Settles O30: DARK cells and the timing lines are reserved, and the scan has placed its last bit before it comes to
column 1, so that `(1,1)` stays LIGHT. -/
theorem buildKeepsTheFixedPoints : Obligations.BuildKeepsTheFixedPoints := by
  intro s t hblen hbuild
  obtain ⟨left, hscan, rfl⟩ : ∃ left, scan s.buf Grid.structural = left ∧
      t = (s.withScan left).respond Op.build.code 0#16 := by
    rcases exec_build_cases hbuild with ⟨-, h⟩ | ⟨hshort, -⟩
    · exact h
    · exact absurd (beq_iff_eq.mpr hblen) hshort
  simp only [State.cell, State.respond_grid, State.withScan_grid]
  have hkeep : ∀ r < 25, ∀ c < 25, structural r c = .dark ∨ r = 6 ∨ c = 6 → left.1.cell r c = structural r c := by
    intro r hr c hc hres
    rw [← cell_structural r hr c hc] at hres ⊢
    exact scan_cell_of_reserved hscan (Grid.reserved_iff.mpr hres)
  have hdark : ∀ r c, r < 25 → c < 25 → structural r c = .dark → left.1.cell r c = .dark :=
    fun r c hr hc h => (hkeep r hr c hc (.inl h)).trans h
  have hlight : left.1.cell 1 1 = .light := by
    have hunreached : (1, 1) ∉ scanOrder.take 400 := by decide +kernel
    rw [scan_cell_of_notMem_take hscan free_scanOrder_take hunreached, cell_structural 1 (by decide) 1 (by decide)]
    decide
  have htiming : ∀ i, 8 ≤ i → i ≤ 16 →
      (left.1.cell 6 i = .dark ↔ i % 2 = 0) ∧ (left.1.cell i 6 = .dark ↔ i % 2 = 0) := by
    intro i hlo hhi
    rw [hkeep 6 (by decide) i (by omega) (.inr (.inl rfl)), hkeep i (by omega) 6 (by decide) (.inr (.inr rfl))]
    exact structural_timing i (by omega) hlo
  exact ⟨hdark 0 0 (by decide) (by decide) (by decide), hdark 3 3 (by decide) (by decide) (by decide), hlight,
    htiming, hdark⟩

end Sys2Proof.Machine
end

section
/-! PROOFS. The data scan on any grid: its order, the cells it finds free, and the bit each of them receives. -/

namespace Sys2Proof.Machine

open Sys2Proof.Spec

/-! ### The order of the visits -/

/-- The outer loop runs through the column pairs of R144. -/
theorem scanPairs_eq_r144 : scanPairs 25 24 true = r144.map fun pair => ((pair.1 : Int), pair.2) := by
  decide

/-- The inner loops visit a column pair as R144 says. -/
theorem pairCells_natCast (col : Nat) (up : Bool) :
    pairCells (col, up) = (List.range 25).flatMap fun i =>
      let row := if up then 24 - i else i
      [(row, col), (row, col - 1)] := by
  have hleft : ((col : Int) - 1).toNat = col - 1 := by omega
  simp only [pairCells, Int.toNat_natCast, hleft]

theorem scanOrder_eq_visits : scanOrder = visits := by
  rw [scanOrder, scanPairs_eq_r144, List.flatMap_map]
  exact List.flatMap_congr fun pair _ => pairCells_natCast pair.1 pair.2

theorem length_pairCells (pair : Int × Bool) : (pairCells pair).length = 50 := by
  simp [pairCells, List.length_flatMap]

theorem length_scanOrder : scanOrder.length = 600 := by
  simp only [scanOrder, List.length_flatMap, length_pairCells]
  decide

/-- The visits cover the grid but for column 6: each column pair holds its two columns whole. -/
theorem mem_scanOrder {r c : Nat} : (r, c) ∈ scanOrder ↔ r < 25 ∧ c < 25 ∧ c ≠ 6 := by
  simp only [scanOrder, scanPairs_eq_r144, List.flatMap_map, List.mem_flatMap, mem_pairCells]
  simp only [r144, List.mem_cons, List.not_mem_nil, or_false, exists_eq_or_imp, exists_eq_left]
  omega

/-- Settles O24. -/
theorem scanVisitsEveryCellOnce : Obligations.ScanVisitsEveryCellOnce :=
  ⟨scanOrder_eq_visits, length_scanOrder, nodup_scanOrder, fun _ _ => mem_scanOrder⟩

/-! ### Refusal and reserved cells -/

theorem State.full_of_blen {s : State} (h : s.blen = 44#6) : s.full = true := beq_iff_eq.mpr h

/-- Settles O27. -/
theorem shortBufferIsRefused : Obligations.ShortBufferIsRefused := by
  intro s hblen
  have hshort : ¬ s.full = true := fun h => hblen (beq_iff_eq.mp h)
  have hdata : refusalWord .eShort Op.data.code = 0x84230000#32 := by decide
  have hbuild : refusalWord .eShort Op.build.code = 0x84240000#32 := by decide
  rw [exec_data_short hshort, exec_build_short hshort, State.refuse, State.refuse, hdata, hbuild]
  exact ⟨rfl, rfl⟩

/-- Settles O26: a refused `DATA` writes no cell, a completed one no reserved cell. -/
theorem dataKeepsReservedCells : Obligations.DataKeepsReservedCells := by
  intro s t hdata r c _ _ hres
  rcases exec_data_cases hdata with ⟨-, left, hscan, rfl⟩ | ⟨-, rfl⟩
  · exact scan_cell_of_reserved hscan (Grid.reserved_iff.mpr (by tauto))
  · rfl

/-! ### Visits of free cells

A scan is first cut down to the cells that are free before it, then to the first 352 of them; there every visit places a
bit. -/

/-- A list of cells of the grid, pairwise different and none of them reserved. -/
structure Grid.FreeList (g : Grid) (cells : List (Nat × Nat)) : Prop where
  nodup : cells.Nodup
  inside : ∀ rc ∈ cells, rc.1 < 25 ∧ rc.2 < 25
  free : ∀ rc ∈ cells, g.reserved rc.1 rc.2 = false

theorem Grid.FreeList.take {g : Grid} {cells : List (Nat × Nat)} (h : g.FreeList cells) (n : Nat) :
    g.FreeList (cells.take n) where
  nodup := h.nodup.sublist (List.take_sublist ..)
  inside rc hrc := h.inside rc (List.mem_of_mem_take hrc)
  free rc hrc := h.free rc (List.mem_of_mem_take hrc)

/-- A visit changes the reserved test of no other cell. -/
theorem scanVisit_reserved_ne (b : Buf) (st : Grid × Nat) {rc x : Nat × Nat} (h : rc ≠ x) :
    (scanVisit b st rc).1.reserved x.1 x.2 = st.1.reserved x.1 x.2 :=
  Grid.reserved_congr (scanVisit_cell_ne b st h)

/-- A visit of the first cell of the list leaves the others free. -/
theorem Grid.FreeList.tail {st : Grid × Nat} {rc : Nat × Nat} {cells : List (Nat × Nat)}
    (h : st.1.FreeList (rc :: cells)) (b : Buf) : (scanVisit b st rc).1.FreeList cells := by
  obtain ⟨hnew, hnodup⟩ := List.nodup_cons.mp h.nodup
  refine ⟨hnodup, fun x hx => h.inside x (List.mem_cons_of_mem _ hx), fun x hx => ?_⟩
  have hne : rc ≠ x := fun e => hnew (e ▸ hx)
  rw [scanVisit_reserved_ne b st hne]
  exact h.free x (List.mem_cons_of_mem _ hx)

theorem scanVisit_of_reserved (b : Buf) {st : Grid × Nat} {rc : Nat × Nat} (h : st.1.reserved rc.1 rc.2 = true) :
    scanVisit b st rc = st := if_pos h

/-- A visit of a free cell with a bit left places it (R141). -/
theorem scanVisit_of_free (b : Buf) {st : Grid × Nat} {rc : Nat × Nat} (h : st.1.reserved rc.1 rc.2 = false)
    (hroom : st.2 < 352) : scanVisit b st rc = (st.1.setCell rc.1 rc.2 (moduleOfBit (b.bit st.2)), st.2 + 1) := by
  rcases scanVisit_cases b st rc with ⟨-, hres | hfull⟩ | ⟨-, -, e⟩
  · rw [h] at hres; cases hres
  · omega
  · exact e

/-- Visits of pairwise different cells do what the visits of those that are free at the start do. -/
theorem foldl_scanVisit_filter (b : Buf) {cells : List (Nat × Nat)} (hnodup : cells.Nodup) (st : Grid × Nat) :
    cells.foldl (scanVisit b) st = (cells.filter fun rc => !st.1.reserved rc.1 rc.2).foldl (scanVisit b) st := by
  induction cells generalizing st with
  | nil => rfl
  | cons rc cells ih =>
    obtain ⟨hnew, hnodup⟩ := List.nodup_cons.mp hnodup
    rw [List.foldl_cons, List.filter_cons]
    cases hres : st.1.reserved rc.1 rc.2 with
    | true =>
      rw [scanVisit_of_reserved b hres]
      exact ih hnodup st
    | false =>
      have hlater : (cells.filter fun x => !(scanVisit b st rc).1.reserved x.1 x.2)
          = cells.filter fun x => !st.1.reserved x.1 x.2 :=
        List.filter_congr fun x hx => by
          have hne : rc ≠ x := fun e => hnew (e ▸ hx)
          rw [scanVisit_reserved_ne b st hne]
      rw [ih hnodup, hlater]
      rfl

/-- Visits of free cells end when no bit is left. -/
theorem foldl_scanVisit_take (b : Buf) {cells : List (Nat × Nat)} {st : Grid × Nat} (h : st.1.FreeList cells) {n : Nat}
    (hn : st.2 + n = 352) : cells.foldl (scanVisit b) st = (cells.take n).foldl (scanVisit b) st := by
  induction cells generalizing st n with
  | nil => rw [List.take_nil]
  | cons rc cells ih =>
    cases n with
    | zero => exact foldl_scanVisit_of_full b _ hn.ge
    | succ n =>
      have hcursor : (scanVisit b st rc).2 = st.2 + 1 := by
        rw [scanVisit_of_free b (h.free rc List.mem_cons_self) (by omega)]
      exact ih (h.tail b) (by omega)

/-- Visits of free cells with a bit left for each put the bits into them one after another. -/
theorem foldl_scanVisit_cell_getElem (b : Buf) {cells : List (Nat × Nat)} {st : Grid × Nat} (h : st.1.FreeList cells)
    (hroom : st.2 + cells.length ≤ 352) {k : Nat} (hk : k < cells.length) :
    (cells.foldl (scanVisit b) st).1.cell cells[k].1 cells[k].2 = moduleOfBit (b.bit (st.2 + k)) := by
  induction cells generalizing st k with
  | nil => exact absurd hk (Nat.not_lt_zero k)
  | cons rc cells ih =>
    rw [List.length_cons] at hroom hk
    have hvisit := scanVisit_of_free b (h.free rc List.mem_cons_self) (by omega : st.2 < 352)
    rw [List.foldl_cons]
    cases k with
    | zero =>
      obtain ⟨hnew, -⟩ := List.nodup_cons.mp h.nodup
      obtain ⟨hr, hc⟩ := h.inside rc List.mem_cons_self
      show (cells.foldl (scanVisit b) (scanVisit b st rc)).1.cell rc.1 rc.2 = _
      rw [foldl_scanVisit_cell_of_notMem b _ hnew, hvisit, Grid.cell_setCell, if_pos ⟨⟨rfl, rfl⟩, hr, hc⟩]
      rfl
    | succ k =>
      have hcursor : (scanVisit b st rc).2 = st.2 + 1 := by rw [hvisit]
      rw [List.getElem_cons_succ, ih (h.tail b) (by omega) (by omega), hcursor]
      congr 2; omega

/-! ### The scan -/

/-- The cells the scan finds free are those of R142, in the order of R144. -/
theorem filter_scanOrder_eq_freeCells (g : Grid) :
    (scanOrder.filter fun rc => !g.reserved rc.1 rc.2) = freeCells g.cell := by
  rw [freeCells, ← scanOrder_eq_visits]
  refine List.filter_congr fun rc hrc => ?_
  obtain ⟨-, -, hcol⟩ := mem_scanOrder.mp hrc
  rw [Bool.eq_iff_iff, Bool.not_eq_true', Bool.eq_false_iff, Ne, Grid.reserved_iff, decide_eq_true_iff]
  tauto

theorem freeList_freeCells (g : Grid) : g.FreeList (freeCells g.cell) := by
  rw [← filter_scanOrder_eq_freeCells]
  refine ⟨nodup_scanOrder.filter _, fun rc hrc => ?_, fun rc hrc => ?_⟩
  · obtain ⟨hr, hc, -⟩ := mem_scanOrder.mp (List.mem_of_mem_filter hrc)
    exact ⟨hr, hc⟩
  · simpa using List.of_mem_filter hrc

/-- The scan comes down to visits of the first 352 free cells. -/
theorem scan_eq_foldl_freeCells (b : Buf) (g : Grid) :
    scan b g = ((freeCells g.cell).take 352).foldl (scanVisit b) (g, 0) := by
  unfold scan
  rw [foldl_scanVisit_filter b nodup_scanOrder, filter_scanOrder_eq_freeCells]
  exact foldl_scanVisit_take b (st := (g, 0)) (freeList_freeCells g) rfl

/-- What the scan of a grid leaves when the cells it writes are `cells`, in this order. -/
structure ScanPlaces (b : Buf) (g : Grid) (cells : List (Nat × Nat)) (left : Grid × Nat) : Prop where
  cursor : left.2 = cells.length
  placed : ∀ k (h : k < cells.length), left.1.cell cells[k].1 cells[k].2 = moduleOfBit (b.bit k)
  kept : ∀ r c, (r, c) ∉ cells → left.1.cell r c = g.cell r c

/-- The scan of any grid puts the source bits into the first 352 free cells and writes no other (R141, R142, R145). -/
theorem scan_places {b : Buf} {g : Grid} {left : Grid × Nat} (hscan : scan b g = left) :
    ScanPlaces b g ((freeCells g.cell).take 352) left := by
  have hfree := (freeList_freeCells g).take 352
  have hroom : ((freeCells g.cell).take 352).length ≤ 352 := List.length_take_le 352 _
  obtain rfl := (scan_eq_foldl_freeCells b g).symm.trans hscan
  refine ⟨?_, fun k hk => ?_, fun r c hrc => foldl_scanVisit_cell_of_notMem b _ hrc⟩
  · have hall : (((freeCells g.cell).take 352).countP fun rc => !g.reserved rc.1 rc.2)
        = ((freeCells g.cell).take 352).length :=
      List.countP_eq_length.mpr fun rc hrc => by rw [hfree.free rc hrc]; rfl
    rw [foldl_scanVisit_cursor b hfree.nodup (Nat.zero_le _), hall]
    omega
  · have hcell := foldl_scanVisit_cell_getElem b (st := (g, 0)) hfree (by omega) hk
    rwa [Nat.zero_add] at hcell

/-- The module of a source bit: bit `7 − (k mod 8)` of its byte is the quotient by that power of two, mod 2 (R9, R62). -/
theorem moduleOfBit_eq_sourceModule (b : Buf) (k : Nat) : moduleOfBit (b.bit k) = sourceModule b.byte k := by
  simp [moduleOfBit, Buf.bit, sourceModule, BitVec.getLsbD, Nat.testBit_eq_decide_div_mod_eq]

/-- Settles O25. -/
theorem dataPlacesBitsInScanOrder : Obligations.DataPlacesBitsInScanOrder := by
  intro s hblen
  have hword : successWord Op.data.code 0#16 = 0x00230000#32 := by decide
  obtain ⟨left, hscan, hdata⟩ := exec_data_full (State.full_of_blen hblen)
  obtain ⟨hcursor, hplaced, hkept⟩ := scan_places hscan
  rw [List.length_take] at hcursor
  refine ⟨_, hdata, ?_, fun k hk hbits => ?_, fun r c _ _ hrc => hkept r c hrc, ?_⟩
  · rw [State.respond_cur, State.withScan_cur, BitVec.toNat_ofNat, hcursor]
    exact Nat.mod_eq_of_lt (by omega)
  · have hcell := hplaced k (List.length_take ▸ lt_min hbits hk)
    rwa [List.getElem_take, moduleOfBit_eq_sourceModule] at hcell
  · rw [State.respond, hword]; rfl

/-! ### `BUILD` -/

theorem length_v30 : v30.length = 352 := by
  decide +kernel

/-- R147: on the structural grid the first 352 free cells are those V30 tabulates. -/
theorem take_freeCells_structural : (freeCells Grid.structural.cell).take 352 = v30 := by
  have hpicture : freeCells Grid.structural.cell = freeCells structural :=
    List.filter_congr fun rc hrc => by
      obtain ⟨hr, hc, -⟩ := mem_scanOrder.mp (scanOrder_eq_visits ▸ hrc)
      rw [cell_structural _ hr _ hc]
  rw [hpicture]
  decide +kernel

/-- Settles O28. -/
theorem buildPlacesEveryBitInItsCell : Obligations.BuildPlacesEveryBitInItsCell := by
  intro s hblen
  have hword : successWord Op.build.code 0#16 = 0x00240000#32 := by decide
  obtain ⟨left, hscan, hbuild⟩ := exec_build_full (State.full_of_blen hblen)
  have hplaces := scan_places hscan
  rw [take_freeCells_structural] at hplaces
  obtain ⟨hcursor, hplaced, hkept⟩ := hplaces
  refine ⟨_, hbuild, ?_, fun k hk => ?_, fun r c hr hc hrc => ?_, ?_⟩
  · rw [State.respond_cur, State.withScan_cur, hcursor, length_v30]
  · exact (hplaced k hk).trans (moduleOfBit_eq_sourceModule s.buf k)
  · exact (hkept r c hrc).trans (cell_structural r hr c hc)
  · rw [State.respond, hword]; rfl

/-- `t` is `s` but for the grid and the responses. -/
def State.Redraws (s t : State) : Prop := ∃ g rsps, t = { s with grid := g, rspOut := rsps }

theorem State.Redraws.refl (s : State) : s.Redraws s := ⟨s.grid, s.rspOut, rfl⟩

theorem State.Redraws.trans {s t u : State} (h : s.Redraws t) (h' : t.Redraws u) : s.Redraws u := by
  obtain ⟨_, _, rfl⟩ := h
  obtain ⟨g, rsps, rfl⟩ := h'
  exact ⟨g, rsps, rfl⟩

theorem redraws_find {k : Nat} (hk : k < 3) {s t : State} (h : exec (.find k) s = .next t) : s.Redraws t :=
  ⟨_, _, (Host.Outcome.next.inj ((exec_find_some s (findAnchor_eq_anchor k hk)).symm.trans h)).symm⟩

/-- The structure commands write the grid and nothing else (R130, R131, R134). -/
theorem redraws_of_mem_struct {i : Instr} (hi : i ∈ Pseudo.struct.expand) {s t : State} (h : exec i s = .next t) :
    s.Redraws t := by
  simp only [Pseudo.expand, List.mem_cons, List.not_mem_nil, or_false] at hi
  rcases hi with rfl | rfl | rfl | rfl | rfl
  · exact ⟨_, _, (Host.Outcome.next.inj ((exec_gclr s).symm.trans h)).symm⟩
  · exact redraws_find (by decide) h
  · exact redraws_find (by decide) h
  · exact redraws_find (by decide) h
  · exact ⟨_, _, (Host.Outcome.next.inj ((exec_time s).symm.trans h)).symm⟩

theorem runCommands_redraws {is : List Instr} (his : ∀ i ∈ is, ∀ s t, exec i s = .next t → s.Redraws t) {s u : State}
    (h : runCommands is s = .next u) : s.Redraws u := by
  induction is generalizing s with
  | nil =>
    obtain rfl := runCommands_nil.mp h
    exact State.Redraws.refl s
  | cons i is ih =>
    obtain ⟨t, hexec, hrun⟩ := runCommands_cons.mp h
    exact (his i List.mem_cons_self s t hexec).trans (ih (fun j hj => his j (List.mem_cons_of_mem i hj)) hrun)

/-- Settles O29: after `STRUCT`, `DATA` scans the grid and the buffer that `BUILD` scans. -/
theorem buildEqualsItsSixCommands : Obligations.BuildEqualsItsSixCommands := by
  intro s hblen
  obtain ⟨left, hscan, hbuild⟩ := exec_build_full (State.full_of_blen hblen)
  obtain ⟨t, hstruct, hgrid⟩ := runCommands_struct s
  obtain ⟨g, rsps, rfl⟩ := runCommands_redraws (fun _ hi _ _ => redraws_of_mem_struct hi) hstruct
  obtain rfl : g = Grid.structural := hgrid
  obtain ⟨left', hscan', hdata⟩ :=
    exec_data_full (s := { s with grid := Grid.structural, rspOut := rsps }) (State.full_of_blen hblen)
  obtain rfl : left = left' := hscan.symm.trans hscan'
  exact ⟨_, _, hbuild, runCommands_append.mpr ⟨_, hstruct, runCommands_cons.mpr ⟨_, hdata, runCommands_nil.mpr rfl⟩⟩,
    rfl⟩

/-! ### The overwritten structural cells -/

/-- A full buffer whose source bits are all 1. -/
def allOnes : State := { State.reset with buf := Vector.replicate 44 0xFF#8, blen := 44#6 }

theorem sourceModule_allOnes {k : Nat} (h : k < 352) : sourceModule allOnes.byte k = .dark := by
  have hbyte : allOnes.byte (k / 8) = 0xFF#8 := by
    have hk : k / 8 < 44 := by omega
    simp [allOnes, State.byte, Buf.byte, hk]
  have hbits : ∀ i < 8, 255 / 2 ^ i % 2 = 1 := by decide
  rw [sourceModule, hbyte]
  exact if_pos (hbits _ (by omega))

/-- The structural cells among V30's are the cells of R148, and each of R148's is one of V30's. -/
theorem mem_v30_iff_mem_r148 :
    (∀ rc ∈ v30, isStructural rc.1 rc.2 = true → rc ∈ r148) ∧ ∀ rc ∈ r148, rc ∈ v30 := by
  decide +kernel

/-- Settles O31: `BUILD` makes a LIGHT structural cell DARK only by a bit, so in a cell of V30, and a buffer of ones
makes all of these DARK. -/
theorem exactlyThirtyStructuralCellsAreOverwritten : Obligations.ExactlyThirtyStructuralCellsAreOverwritten := by
  intro r c hr hc hstruct hlight
  obtain ⟨hin, hout⟩ := mem_v30_iff_mem_r148
  constructor
  · rintro ⟨s, t, hblen, hbuild, hdark⟩
    obtain ⟨u, hbuild', -, -, helse, -⟩ := buildPlacesEveryBitInItsCell s hblen
    obtain rfl := Host.Outcome.next.inj (hbuild.symm.trans hbuild')
    refine hin (r, c) (by_contra fun hrc => ?_) hstruct
    rw [helse r c hr hc hrc, hlight] at hdark
    cases hdark
  · intro hrc
    obtain ⟨t, hbuild, -, hplaced, -⟩ := buildPlacesEveryBitInItsCell allOnes rfl
    obtain ⟨k, hk, hcell⟩ := List.getElem_of_mem (hout (r, c) hrc)
    refine ⟨allOnes, t, rfl, hbuild, ?_⟩
    have hdark := hplaced k hk
    rwa [hcell, sourceModule_allOnes (length_v30 ▸ hk)] at hdark

end Sys2Proof.Machine
end

section
/-! PROOFS. `SETS` and `SETQ`, and the `RAST` of a raster with no room for the grid. -/

namespace Sys2Proof.Machine

open Sys2Proof.Spec

/-! ### `SETS` and `SETQ` -/

/-- `SETS` takes every value (R150). -/
theorem exec_sets (v : Half) (s : State) :
    exec (.sets v) s = .next ({ s with sizepx := v }.respond Op.sets.code 0#16) := rfl

/-- `SETQ` takes every value (R151). -/
theorem exec_setq (v : Half) (s : State) :
    exec (.setq v) s = .next ({ s with quietpx := v }.respond Op.setq.code 0#16) := rfl

/-- Settles O32. -/
theorem setsAndSetqLoadTheirRegister : Obligations.SetsAndSetqLoadTheirRegister := by
  intro s v
  have hsets : successWord Op.sets.code 0#16 = 0x00300000#32 := by decide
  have hsetq : successWord Op.setq.code 0#16 = 0x00310000#32 := by decide
  constructor
  · rw [exec_sets, State.respond, hsets]
  · rw [exec_setq, State.respond, hsetq]

/-! ### `RAST` with `inner` below 25 -/

/-- With scale 0 no pixel lies in the drawn square, so R157 makes every pixel WHITE. -/
theorem r157_scale_zero (o : Nat) (cell : Nat → Nat → GridModule) (x y : Nat) : r157 0 o cell x y = 0#1 :=
  if_neg fun ⟨hscale, _⟩ => absurd hscale (by decide)

namespace State

/-- R153: with `inner` below 25, negative included, `SCALE` is 0. -/
theorem scaleNat_of_inner_lt {s : State} (h : s.inner < 25) : s.scaleNat = 0 := by
  obtain ⟨hscale, -, -, -⟩ := geometry_of_inner_lt h
  rw [scale_eq] at hscale
  exact Int.natCast_eq_zero.mp hscale

/-- With `SCALE` 0 the squares of the DARK cells are empty, so the white phase is the whole sequence of R156. -/
theorem rastWrites_of_scale_zero {s : State} (h : s.scaleNat = 0) : s.rastWrites = s.whiteWrites := by
  have hlength : s.blackWrites.length = 0 := by rw [length_blackWrites, h, Nat.zero_mul]
  rw [rastWrites, List.eq_nil_of_length_eq_zero hlength, List.append_nil]

/-- With `SCALE` 0 every pixel of the raster comes out WHITE. -/
theorem read_rastCanvas_of_scale_zero {s : State} (h : s.scaleNat = 0) {a : Nat}
    (ha : a < s.sizepx.toNat * s.sizepx.toNat) : s.rastCanvas.read a = some 0#1 := by
  rw [read_rastCanvas, if_pos ha, h, r157_scale_zero]

end State

/-- Settles O38: `SCALE` is 0, so neither the picture nor the port gets a BLACK pixel. -/
theorem rastDegenerateCaseIsAllWhite : Obligations.RastDegenerateCaseIsAllWhite := by
  intro s hinner
  have hscale : s.scaleNat = 0 := State.scaleNat_of_inner_lt hinner
  have hword : successWord Op.rast.code 0#16 = 0x00320000#32 := by decide
  refine ⟨_, exec_rast s, fun a ha => State.read_rastCanvas_of_scale_zero hscale ha, fun a ha => ?_, ?_⟩
  · exact (s.read_rastCanvas a).trans (if_neg (Nat.not_lt.mpr ha))
  · rw [State.rastWrites_of_scale_zero hscale, State.respond, hword]
    rfl

end Sys2Proof.Machine
end

section
/-! PROOFS. `NOP` and the read-back commands, and why a read-back alters no later result: no command reads the responses. -/

namespace Sys2Proof.Machine

/-! ### The outcome of an accepted and of a refused command -/

/-- The converse of `exec_cases`, for a command accepted. -/
theorem State.Accepts.exec {s u : State} {i : Instr} {data : Half} (h : s.Accepts i u data) :
    exec i s = .next (u.respond i.opcode data) := by
  cases h with
  | pushStored v room => rw [exec_push, if_pos room]; rfl
  | pushDropped v noRoom => rw [exec_push, if_neg (Nat.not_lt.mpr noRoom)]; rfl
  | find k anchor sel => exact exec_find_some s sel
  | data left full scanned =>
    obtain ⟨left', scanned', e⟩ := exec_data_full full
    obtain rfl := scanned.symm.trans scanned'
    exact e
  | build left full scanned =>
    obtain ⟨left', scanned', e⟩ := exec_build_full full
    obtain rfl := scanned.symm.trans scanned'
    exact e
  | rdb idx valid => exact if_pos valid
  | rdg row col inRange => exact if_pos inRange
  | rdr reg r assigned => exact exec_rdr_some s assigned
  | nop | rst | pclr | pad | gclr | time | sets | setq | rast => rfl

/-- The converse of `exec_cases`, for a command refused. -/
theorem State.Refuses.exec {s : State} {i : Instr} {c : RefusalCode} (h : s.Refuses i c) :
    exec i s = .next (s.refuse i.opcode c) := by
  cases h with
  | find k sel => exact exec_find_none s sel
  | data short => exact exec_data_short short
  | build short => exact exec_build_short short
  | rdb idx invalid => exact if_neg invalid
  | rdg row col outside => exact if_neg outside
  | rdr reg reserved => exact exec_rdr_none s reserved

/-! ### No command reads the responses -/

/-- The state with other responses in its history. -/
def State.withRspOut (s : State) (rsps : List Word) : State := { s with rspOut := rsps }

@[simp] theorem State.withRspOut_blen (s : State) (rsps : List Word) : (s.withRspOut rsps).blen = s.blen := rfl

@[simp] theorem State.withRspOut_append (s : State) (rsps : List Word) (v : Byte) :
    (s.withRspOut rsps).append v = (s.append v).withRspOut rsps := rfl

/-- The loop of `PAD` neither reads nor writes the responses. -/
theorem State.withRspOut_padLoop (fuel : Nat) (s : State) (rsps : List Word) :
    (s.withRspOut rsps).padLoop fuel = (s.padLoop fuel).withRspOut rsps := by
  induction fuel generalizing s with
  | zero => rfl
  | succ fuel ih =>
    simp only [State.padLoop, withRspOut_blen, withRspOut_append, ih]
    split_ifs <;> rfl

/-- A command is accepted whatever was answered before, and leaves and answers the same. -/
theorem State.Accepts.withRspOut {s u : State} {i : Instr} {data : Half} (h : s.Accepts i u data) (rsps : List Word) :
    (s.withRspOut rsps).Accepts i (u.withRspOut rsps) data := by
  cases h with
  | pushStored v room => exact .pushStored v room
  | pushDropped v noRoom => exact .pushDropped v noRoom
  | pad => exact State.withRspOut_padLoop 44 s rsps ▸ .pad
  | find k anchor sel => exact .find k anchor sel
  | data left full scanned => exact .data left full scanned
  | build left full scanned => exact .build left full scanned
  | rdb idx valid => exact .rdb idx valid
  | rdg row col inRange => exact .rdg row col inRange
  | rdr reg r assigned => exact .rdr reg r assigned
  | nop | rst | pclr | gclr | time | sets | setq | rast => constructor

/-- A command is refused whatever was answered before, with the same code. -/
theorem State.Refuses.withRspOut {s : State} {i : Instr} {c : RefusalCode} (h : s.Refuses i c) (rsps : List Word) :
    (s.withRspOut rsps).Refuses i c := by
  cases h with
  | find k sel => exact .find k sel
  | data short => exact .data short
  | build short => exact .build short
  | rdb idx invalid => exact .rdb idx invalid
  | rdg row col outside => exact .rdg row col outside
  | rdr reg reserved => exact .rdr reg reserved

/-- What a command leaves and what it answers do not depend on the responses before it. -/
theorem exec_withRspOut (i : Instr) (s : State) :
    ∃ (u : State) (p : Word), ∀ rsps, exec i (s.withRspOut rsps) = .next (u.withRspOut (rsps ++ [p])) := by
  rcases exec_accepts_or_refuses i s with ⟨u, data, ha, -⟩ | ⟨c, hr, -⟩
  · exact ⟨u, successWord i.opcode data, fun rsps => (ha.withRspOut rsps).exec⟩
  · exact ⟨s.refuse i.opcode c, refusalWord c i.opcode, fun rsps => (hr.withRspOut rsps).exec⟩

/-- Neither do those of a sequence of commands. -/
theorem runCommands_withRspOut (is : List Instr) (s : State) :
    ∃ (u : State) (ps : List Word), ∀ rsps,
      runCommands is (s.withRspOut rsps) = .next (u.withRspOut (rsps ++ ps)) := by
  induction is generalizing s with
  | nil => exact ⟨s, [], fun rsps => by rw [List.append_nil]; rfl⟩
  | cons i is ih =>
    obtain ⟨t, p, hexec⟩ := exec_withRspOut i s
    obtain ⟨u, ps, hrun⟩ := ih t
    refine ⟨u, p :: ps, fun rsps => runCommands_cons.mpr ⟨_, hexec rsps, ?_⟩⟩
    simpa using hrun (rsps ++ [p])

/-! ### The read-back commands -/

/-- An accepted read-back leaves the state as it was (R171, R172, R173). -/
theorem State.Accepts.eq_of_readBack {s u : State} {i : Instr} {data : Half} (h : s.Accepts i u data)
    (hi : i.op ∈ [Op.rdb, .rdg, .rdr]) : u = s := by
  cases h with
  | rdb | rdg | rdr => rfl
  | _ => exact absurd hi (by simp [Instr.op])

/-- Settles O44: the read-back changes the responses, and no later command reads them. -/
theorem readBackIsPure : Obligations.ReadBackIsPure := by
  intro i s t p js hi h hrsp hp
  obtain ⟨u, data, ha, rfl⟩ := accepted_of_response h hrsp hp
  obtain rfl := ha.eq_of_readBack hi
  obtain rfl : successWord i.opcode data = p := by simpa using hrsp
  obtain ⟨v, ps, hrun⟩ := runCommands_withRspOut js u
  exact ⟨rfl, _, _, ps, hrun u.rspOut, hrun _, rfl, rfl, rfl⟩

/-- Settles O39. -/
theorem nopOnlyResponds : Obligations.NopOnlyResponds := by
  intro s
  have hexec : exec .nop s = .next (s.respond Op.nop.code 0#16) := State.Accepts.nop.exec
  have hword : successWord Op.nop.code 0#16 = 0x00000000#32 := by decide
  rw [hexec, State.respond, hword]

/-- The response to an accepted `RDB`: the byte, zero-extended, under the opcode byte 0x40 (R97, R171). -/
theorem successWord_rdb (v : Byte) :
    successWord Op.rdb.code (v.setWidth 16) = BitVec.ofNat 32 (0x00400000 + v.toNat) := by
  rw [successWord_eq_ofNat, BitVec.toNat_setWidth_of_le (by decide)]
  rfl

/-- Settles O41: the two clauses are the two sides of `validIndex`. -/
theorem rdbReadsAValidByte : Obligations.RdbReadsAValidByte := by
  intro s idx
  constructor
  · intro valid
    have hexec : exec (.rdb idx) s = .next (s.respond Op.rdb.code ((s.byte idx).setWidth 16)) :=
      (State.Accepts.rdb idx (decide_eq_true valid)).exec
    rw [hexec, State.respond, successWord_rdb]
  · intro invalid
    have hexec : exec (.rdb idx) s = .next (s.refuse Op.rdb.code .eRange) :=
      (State.Refuses.rdb idx fun valid => Nat.not_lt.mpr invalid (of_decide_eq_true valid)).exec
    have hword : refusalWord .eRange Op.rdb.code = 0x83400000#32 := by decide
    rw [hexec, State.refuse, hword]
    rfl

/-- The response to an accepted `RDG`: 1 for DARK and 0 for LIGHT, under the opcode byte 0x41 (R97, R172). -/
theorem successWord_rdg (m : GridModule) :
    successWord Op.rdg.code (moduleData m) = if m = .dark then 0x00410001#32 else 0x00410000#32 := by
  cases m <;> decide

theorem cellInRange_iff {row col : Nat} : cellInRange row col = true ↔ row ≤ 24 ∧ col ≤ 24 := by
  simp [cellInRange]

/-- Settles O42: the two clauses are the two sides of `cellInRange`. -/
theorem rdgReadsACell : Obligations.RdgReadsACell := by
  intro s row col
  constructor
  · intro inRange
    have hexec : exec (.rdg row col) s = .next (s.respond Op.rdg.code (moduleData (s.cell row col))) :=
      (State.Accepts.rdg row col (cellInRange_iff.mpr inRange)).exec
    rw [hexec, State.respond, successWord_rdg]
  · intro outside
    have hout : ¬ cellInRange row col = true := by rw [cellInRange_iff]; omega
    have hexec : exec (.rdg row col) s = .next (s.refuse Op.rdg.code .eRange) := (State.Refuses.rdg row col hout).exec
    have hword : refusalWord .eRange Op.rdg.code = 0x83410000#32 := by decide
    rw [hexec, State.refuse, hword]
    rfl

end Sys2Proof.Machine
end

section
/-! PROOFS. Waiting, totality of the step, and refusal: its causes, its codes, and what it changes. -/

namespace Sys2Proof.Machine

open Host (Outcome)
open Sys2Proof.Spec

/-! ### The step -/

/-- Settles O7. -/
theorem waitingBlockKeepsItsState : Obligations.WaitingBlockKeepsItsState :=
  fun _ hin => step_idle hin

/-- Settles O8, by cases on what the host presents next. -/
theorem everyStepAnswersANextState : Obligations.EveryStepAnswersANextState := by
  intro s
  cases hin : s.inputs with
  | nil => exact ⟨s, step_idle hin⟩
  | cons input rest =>
    cases input with
    | command w =>
      obtain ⟨t, _, hstep, _⟩ := step_responds hin
      exact ⟨t, hstep⟩
    | commandCut w => exact ⟨_, step_commandCut hin⟩
    | resetPulse => exact ⟨_, step_resetPulse hin⟩

/-! ### What a refusal changes -/

/-- A command whose response has `err = 1` was refused. -/
theorem refused_of_response {i : Instr} {s t : State} {p : Word} (h : exec i s = .next t)
    (hrsp : t.rspOut = s.rspOut ++ [p]) (hp : p.extractLsb' 31 1 = 1#1) :
    ∃ c, s.Refuses i c ∧ t = s.refuse i.opcode c := by
  refine (exec_cases h).resolve_left ?_
  rintro ⟨u, data, ha, rfl⟩
  have hword : successWord i.opcode data = p := by simpa [ha.frame.rspOut] using hrsp
  have herr := successWord_err i.opcode data
  rw [hword, hp] at herr
  exact absurd herr (by decide)

/-- A command word whose response has `err = 1` was refused, as illegal or by its command, with its top byte as
`echo` either way. -/
theorem step_refused_of_response {s t : State} {w p : Word} {rest : List HostInput}
    (hin : s.inputs = .command w :: rest) (h : step s = .next t) (hrsp : t.rspOut = s.rspOut ++ [p])
    (hp : p.extractLsb' 31 1 = 1#1) : ∃ c, t = (s.accept rest).refuse (opByte w) c := by
  cases hdec : decode w with
  | command i =>
    obtain ⟨c, -, ht⟩ := refused_of_response ((step_command hin hdec).symm.trans h) hrsp hp
    exact ⟨c, opcode_of_decode hdec ▸ ht⟩
  | illegal c => exact ⟨c, Outcome.next.inj (h.symm.trans (step_illegal hin hdec))⟩

/-- The response refusing a word as a number (R97, R181). -/
theorem refusalWord_opByte_toNat (c : RefusalCode) (w : Word) :
    (refusalWord c (opByte w)).toNat =
      0x80000000 + (refusalBits c).toNat * 2 ^ 24 + w.toNat / 2 ^ 24 * 2 ^ 16 := by
  rw [refusalWord, responseWord_toNat, opByte_toNat]
  rfl

/-- Settles O10: the step is a refusal, and `State.refuse` writes the two fields of `STATUS` and the response. -/
theorem refusalChangesOnlyStatus : Obligations.RefusalChangesOnlyStatus := by
  intro s w rest t p hin h hrsp hp
  obtain ⟨c, rfl⟩ := step_refused_of_response hin h hrsp hp
  obtain rfl : refusalWord c (opByte w) = p := by simpa using hrsp
  exact ⟨refusalBits c, refusalWord_opByte_toNat c w, rfl⟩

/-! ### The causes of a refusal -/

theorem State.full_iff {s : State} : s.full = true ↔ s.blen.toNat = 44 := by
  rw [State.full, beq_iff_eq, ← BitVec.toNat_inj]
  rfl

theorem State.validIndex_iff {s : State} {idx : Nat} : s.validIndex idx = true ↔ idx < s.blen.toNat :=
  decide_eq_true_iff

/-- Of the values of the 2-bit field `k`, only 3 selects no anchor (R131). -/
theorem eq_three_of_findAnchor_none {k : Nat} (hk : k < 4) (h : findAnchor k = none) : k = 3 := by
  by_contra hne
  rw [findAnchor_eq_anchor k (by omega)] at h
  cases h

/-- R182 names no cause for an accepted command. -/
theorem State.Accepts.r182_eq_zero {s u : State} {i : Instr} {data : Half} (h : s.Accepts i u data) :
    r182 i s.blen.toNat = 0 := by
  cases h with
  | find k anchor sel =>
    refine if_neg ?_
    rintro rfl
    cases sel
  | data left full _ => exact if_pos (State.full_iff.mp full)
  | build left full _ => exact if_pos (State.full_iff.mp full)
  | rdb idx valid => exact if_neg (Nat.not_le.mpr (State.validIndex_iff.mp valid))
  | rdg row col inRange =>
    obtain ⟨hrow, hcol⟩ := cellInRange_iff.mp inRange
    exact if_neg (by omega)
  | rdr reg r assigned =>
    refine if_neg fun hreg => ?_
    rw [regOfNumber_reserved hreg] at assigned
    cases assigned
  | nop | rst | pclr | pushStored | pushDropped | pad | gclr | time | sets | setq | rast => rfl

/-- R182 names the cause of every refusal of a well-formed command, with its code. -/
theorem State.Refuses.r182_eq {s : State} {i : Instr} {c : RefusalCode} (h : s.Refuses i c) (hwf : i.WellFormed) :
    r182 i s.blen.toNat = (refusalBits c).toNat := by
  cases h with
  | find k sel => exact if_pos (eq_three_of_findAnchor_none (of_decide_eq_true hwf) sel)
  | data short => exact if_neg (mt State.full_iff.mpr short)
  | build short => exact if_neg (mt State.full_iff.mpr short)
  | rdb idx invalid => exact if_pos (Nat.not_lt.mp (mt State.validIndex_iff.mpr invalid))
  | rdg row col outside =>
    rw [cellInRange_iff] at outside
    exact if_pos (by omega)
  | rdr reg reserved =>
    refine if_pos (Nat.not_lt.mp fun hreg => ?_)
    obtain ⟨r, hr, -⟩ := s.readReg_of_lt hreg
    rw [hr] at reserved
    cases reserved

/-- Settles O11, by cases on whether the command is accepted or refused. -/
theorem refusalCausesAndCodes : Obligations.RefusalCausesAndCodes := by
  intro i s hwf
  rcases exec_accepts_or_refuses i s with ⟨u, data, ha, e⟩ | ⟨c, hr, e⟩
  · refine ⟨_, successWord i.opcode data, e, congrArg (· ++ _) ha.frame.rspOut, ?_⟩
    rw [ha.r182_eq_zero, successWord_err, successWord, responseWord_code]
    decide
  · refine ⟨_, refusalWord c i.opcode, e, rfl, ?_⟩
    have hcode : (refusalBits c).toNat ≠ 0 := Nat.one_le_iff_ne_zero.mp (refusalBits_range c).1
    rw [hr.r182_eq hwf, refusalWord_err, refusalWord, responseWord_code]
    exact ⟨rfl, iff_of_true rfl hcode⟩

end Sys2Proof.Machine
end

section
/-! PROOFS. Sequences of commands that are accepted one by one, and the canonical sequence as one of them. -/

namespace Sys2Proof.Machine

/-! ### Runs of accepted commands -/

/-- The commands `is` run from `s` to `t`, each of them accepted, and leave `STATUS.ERR` and `STATUS.LASTERR`. -/
structure State.RunsAccepted (s : State) (is : List Instr) (t : State) : Prop where
  run : runCommands is s = .next t
  responses : ∃ ps, t.rspOut = s.rspOut ++ ps ∧ ps.length = is.length ∧ ∀ p ∈ ps, p.extractLsb' 31 1 = 0#1
  err : t.err = s.err
  lasterr : t.lasterr = s.lasterr

theorem State.RunsAccepted.nil (s : State) : s.RunsAccepted [] s where
  run := rfl
  responses := ⟨[], (List.append_nil _).symm, rfl, by simp⟩
  err := rfl
  lasterr := rfl

theorem State.RunsAccepted.append {s t u : State} {is js : List Instr} (h : s.RunsAccepted is t)
    (h' : t.RunsAccepted js u) : s.RunsAccepted (is ++ js) u where
  run := runCommands_append.mpr ⟨t, h.run, h'.run⟩
  responses := by
    obtain ⟨ps, hrsp, hlength, hps⟩ := h.responses
    obtain ⟨qs, hrsp', hlength', hqs⟩ := h'.responses
    refine ⟨ps ++ qs, ?_, ?_, fun p hp => (List.mem_append.mp hp).elim (hps p) (hqs p)⟩
    · rw [hrsp', hrsp, List.append_assoc]
    · rw [List.length_append, List.length_append, hlength, hlength']
  err := h'.err.trans h.err
  lasterr := h'.lasterr.trans h.lasterr

/-- A run of one accepted command, `RST` aside, which writes `STATUS`. -/
theorem State.Accepts.runsAccepted {s u : State} {i : Instr} {data : Half} (h : s.Accepts i u data)
    (hi : i.op ≠ .rst) : s.RunsAccepted [i] (u.respond i.opcode data) where
  run := runCommands_cons.mpr ⟨_, h.exec, rfl⟩
  responses := by
    refine ⟨[successWord i.opcode data], congrArg (· ++ _) h.frame.rspOut, rfl, fun p hp => ?_⟩
    rw [List.mem_singleton.mp hp]
    exact successWord_err ..
  err := h.frame.err hi
  lasterr := h.frame.lasterr hi

/-- The commands that R182 names. -/
theorem State.Refuses.op_mem {s : State} {i : Instr} {c : RefusalCode} (h : s.Refuses i c) :
    i.op ∈ [Op.find, .data, .build, .rdb, .rdg, .rdr] := by
  cases h <;> simp [Instr.op]

/-- The opcodes that no state refuses and that keep `STATUS.ERR` and `STATUS.LASTERR`. -/
def unconditionalOps : List Op := [.nop, .pclr, .push, .pad, .gclr, .time, .sets, .setq, .rast]

/-- A sequence of commands with such opcodes is accepted command by command from any state. -/
theorem runsAccepted_of_unconditional {is : List Instr} (his : ∀ i ∈ is, i.op ∈ unconditionalOps) (s : State) :
    ∃ t, s.RunsAccepted is t := by
  induction is generalizing s with
  | nil => exact ⟨s, .nil s⟩
  | cons i is ih =>
    obtain ⟨hi, his⟩ := List.forall_mem_cons.mp his
    rcases exec_accepts_or_refuses i s with ⟨u, data, ha, -⟩ | ⟨c, hr, -⟩
    · have hrst : i.op ≠ .rst := fun e => absurd (e ▸ hi) (by decide)
      obtain ⟨t, ht⟩ := ih his (u.respond i.opcode data)
      exact ⟨t, (ha.runsAccepted hrst).append ht⟩
    · have hdisjoint : ∀ o ∈ unconditionalOps, o ∉ [Op.find, .data, .build, .rdb, .rdg, .rdr] := by decide
      exact absurd hr.op_mem (hdisjoint _ hi)

/-! ### The canonical sequence -/

/-- The packing sequence is accepted and leaves a full buffer (R125). -/
theorem pack_runsAccepted (s : State) (text : List Byte) :
    ∃ t, s.RunsAccepted (Pseudo.pack text).expand t ∧ t.full = true := by
  have hops : ∀ i ∈ (Pseudo.pack text).expand, i.op ∈ unconditionalOps := by
    intro i hi
    simp only [Pseudo.expand, List.mem_cons, List.mem_append, List.mem_map, List.not_mem_nil, or_false] at hi
    rcases hi with rfl | ⟨v, -, rfl⟩ | rfl
    · decide
    · show Op.push ∈ unconditionalOps
      decide
    · decide
  obtain ⟨t, ht⟩ := runsAccepted_of_unconditional hops s
  obtain ⟨t', hrun, hblen, -⟩ := packingSequenceFillsTheBuffer s text
  obtain rfl := Host.Outcome.next.inj (ht.run.symm.trans hrun)
  exact ⟨t, ht, State.full_of_blen hblen⟩

/-- `BUILD` on a full buffer is accepted (R146). -/
theorem build_runsAccepted {s : State} (full : s.full = true) : ∃ t, s.RunsAccepted [.build] t :=
  ⟨_, (State.Accepts.build _ full rfl).runsAccepted (by decide)⟩

/-- `RENDER` is accepted from any state (R99). -/
theorem render_runsAccepted (s : State) (size quiet : Half) :
    ∃ t, s.RunsAccepted (Pseudo.render size quiet).expand t :=
  runsAccepted_of_unconditional (by simp [Pseudo.expand, Instr.op, unconditionalOps]) s

/-- `ENCODE` is the packing sequence, then `BUILD` (R99). -/
theorem encode_expand (text : List Byte) :
    (Pseudo.encode text).expand = (Pseudo.pack text).expand ++ [.build] := by
  simp [Pseudo.expand]

/-- Settles O52: packing fills the buffer, so that `BUILD`, the one command with a condition, is accepted. -/
theorem canonicalSequenceIsNeverRefused : Obligations.CanonicalSequenceIsNeverRefused := by
  intro s text size quiet
  obtain ⟨packed, hpack, full⟩ := pack_runsAccepted s text
  obtain ⟨built, hbuild⟩ := build_runsAccepted full
  obtain ⟨t, hrender⟩ := render_runsAccepted built size quiet
  have hall := (hpack.append hbuild).append hrender
  obtain ⟨ps, hrsp, hlength, hps⟩ := hall.responses
  refine ⟨t, ps, ?_, hrsp, ?_, hps, hall.err, hall.lasterr⟩
  · rw [encode_expand]
    exact hall.run
  · rw [hlength]
    simp [Pseudo.expand]

end Sys2Proof.Machine
end

section
/-! PROOFS. A command cut short by the reset pin: what it has sent over the canvas port, and the state it leaves. -/

namespace Sys2Proof.Machine

/-- Taking a word from the channel changes nothing that `RAST` draws. -/
@[simp] theorem State.rastWrites_accept (s : State) (rest : List HostInput) :
    (s.accept rest).rastWrites = s.rastWrites := rfl

/-- Whatever word is cut short, what it has sent is a prefix of the write sequence of `RAST` (R66, R212). -/
theorem State.abandonedPrefix_isPrefix (s : State) (w : Word) : s.abandonedPrefix w <+: s.rastWrites := by
  by_cases hw : decode w = .command .rast
  · rw [State.abandonedPrefix, hw]
    exact List.take_prefix _ _
  · rw [s.abandonedPrefix_eq_nil hw]
    exact List.nil_prefix

/-- Settles O47: what the abandoned word has sent is the prefix asked for, and it is empty unless the word is
`RAST`'s. -/
theorem resetDuringACommandAbandonsIt : Obligations.ResetDuringACommandAbandonsIt := by
  intro s w rest hin
  have hprefix : (s.accept rest).abandonedPrefix w <+: s.rastWrites := by
    simpa using (s.accept rest).abandonedPrefix_isPrefix w
  have hother (hw : w ≠ 0x32000000#32) : (s.accept rest).abandonedPrefix w = [] :=
    (s.accept rest).abandonedPrefix_eq_nil (mt word_of_decode_rast hw)
  exact ⟨(s.accept rest).cutByReset w, (s.accept rest).abandonedPrefix w, _, s.rastWrites, step_commandCut hin,
    exec_rast s, rfl, hprefix, hother, rfl, fun r c _ _ => Grid.cell_allLight r c, rfl⟩

end Sys2Proof.Machine
end
